-- ==== Sys2Proof/Word.lean ====
section
/-! DEFINITION. The two widths of the machine: `XLEN_DATA` = 8 and `XLEN_ADDR` = 16 (00_scope.md R4, R5). -/

namespace Sys2Proof

/-- A byte: the width of A, X, Y, SP, P and of every memory cell (R4). Bit 0 is the least significant (R5). -/
abbrev Byte := BitVec 8

/-- A word: the width of PC and of every address (R4). Addition on it wraps mod 65536 (R6). -/
abbrev Word := BitVec 16

end Sys2Proof
end

