-- ==== Sys2Proof/Machine/Bits.lean ====
section
/-! DEFINITION. The bit-field, extension and byte-order helpers of 00_scope.md R5 and R7, used by the decoder and the machine. -/

namespace Sys2Proof

/-- `{hi, lo} = (hi << 8) | lo` (R5; 20_memory.md R34). -/
def wordOf (hi lo : Byte) : Word := (hi.setWidth 16 <<< 8) ||| lo.setWidth 16

/-- `w[15:8]` (R5). -/
def highByte (w : Word) : Byte := (w >>> 8).setWidth 8

/-- `w[7:0]` (R5). -/
def lowByte (w : Word) : Byte := w.setWidth 8

/-- `zext_16(b)` (R7). -/
def zext16 (b : Byte) : Word := b.setWidth 16

/-- `sext_16(b)` (R7): the byte read as two's complement, mod 65536. -/
def sext16 (b : Byte) : Word := b.signExtend 16

/-- A Boolean as a byte, 1 or 0 (R6). -/
def bit01 (b : Bool) : Byte := if b then 1 else 0

end Sys2Proof
end

