-- ==== Sys2Proof/Config.lean ====
section
/-! DEFINITION. The implementation parameters of 00_scope.md R4 at the values of this hardware, and the one free value. -/

namespace Sys2Proof

/-- A range of addresses of the parameter `IO_REGIONS`, both ends included (20_memory.md R41). -/
structure IoRegion where
  first : Word
  last : Word
deriving DecidableEq, Repr

namespace Config

/-- `STACK_BASE` (R4, 10_state.md R13). -/
def stackBase : Word := 0x0100
/-- `VEC_NMI` (R4, 20_memory.md R39). -/
def vecNmi : Word := 0xFFFA
/-- `VEC_RESET` (R4, 20_memory.md R39). -/
def vecReset : Word := 0xFFFC
/-- `VEC_IRQ`, shared by IRQ and BRK (R4, 20_memory.md R39). -/
def vecIrq : Word := 0xFFFE
/-- `RESET_A` (R4, 10_state.md R26). -/
def resetA : Byte := 0x00
/-- `RESET_X` (R4, 10_state.md R26). -/
def resetX : Byte := 0x00
/-- `RESET_Y` (R4, 10_state.md R26). -/
def resetY : Byte := 0x00
/-- `RESET_SP` (R4, 10_state.md R26). -/
def resetSp : Byte := 0xFD
/-- `RESET_P` (R4, 10_state.md R26): I = 1, bits 5 and 4 = 1, all others 0. -/
def resetP : Byte := 0x34
/-- `UNUSED_CYCLES` (R4, 30_encoding.md R58). -/
def unusedCycles : Nat := 2
/-- The cycle count of an interrupt or reset entry step (70_reset_and_hazards.md R244). -/
def entryCycles : Nat := 7
/-- `IRQ_PUSHES_B0` (R4): bit 4 of the `P` copy pushed by IRQ and NMI entry is 0. -/
def irqPushesB0 : Bool := true
/-- `JMP_IND_PAGE_WRAP` (R4): this hardware carries into the high byte of the pointer address. -/
def jmpIndPageWrap : Bool := false

/-- The NES map of 20_memory.md R41, given there for information: picture unit, audio, sprite DMA trigger,
audio master control, joypad ports. PRESUMED (log entry 4, unsafe): the spec gives `IO_REGIONS` no hardware default.
It is only the value `State.reset` starts with; every statement about a step holds for every map. -/
def nesIoRegions : List IoRegion :=
  [⟨0x2000, 0x2007⟩, ⟨0x4000, 0x4013⟩, ⟨0x4014, 0x4014⟩, ⟨0x4015, 0x4015⟩, ⟨0x4016, 0x4017⟩]

/-- FREE VALUE (log entry 5, safe): the byte an external agent answers to the `n`-th read of an `IO_REGIONS`
address, at that address (20_memory.md R31: "A model takes the answer of such a read from an oracle (any byte)"). -/
opaque ioRead : Nat → Word → Byte

end Config
end Sys2Proof
end

