-- ==== Sys2Proof/Machine/State.lean ====
section
/-! DEFINITION. The machine's state (10_state.md), the reasons a step could stop, and the state after power-on (R26). -/

namespace Sys2Proof.Machine

/-- The flat byte store (20_memory.md R30) as (address, byte) pairs: addresses strictly rising, below 65536, and no entry
equal to what an unlisted address reads as. `Memory.wf` in Machine/Memory.lean says so. -/
abbrev Memory := List Host.Cell

/-- One access of the bus (20_memory.md R31, R32, R37). -/
inductive BusAccess where
  /-- `MemRead(addr, 1)` -/
  | read (addr : Word)
  /-- `MemWrite(addr, 1, v)` -/
  | write (addr : Word) (v : Byte)
deriving DecidableEq, Repr

/-- The state: six registers, the NMI latch and the two input levels (10_state.md R10 to R25), the store behind the bus, the
platform's I/O map (R4), and the model's record of the last step's outputs (R37, R240). -/
structure State where
  /-- accumulator (R10) -/
  a : Byte
  /-- index register X (R10) -/
  x : Byte
  /-- index register Y (R10) -/
  y : Byte
  /-- stack pointer, an offset into page 1 (R13) -/
  sp : Byte
  /-- flag register (R20); bits 5 and 4 are 1 in every state a run reaches (R21) -/
  p : Byte
  /-- program counter (R17) -/
  pc : Word
  /-- NMI edge latch (R24) -/
  nmiPending : Bool
  /-- `irq_line`, an input level (R25), held here between the environment's changes of it -/
  irqLine : Bool
  /-- `reset_req`, an input level (R23), held here between the environment's changes of it -/
  resetReq : Bool
  /-- the bus's byte store (20_memory.md R30, R31) -/
  mem : Memory
  /-- the parameter `IO_REGIONS` (00_scope.md R4); no step changes it -/
  ioRegions : List IoRegion
  /-- the model's own counter of I/O reads, which the free value `Config.ioRead` is applied to (log entry 5) -/
  ioReads : Nat
  /-- the bus accesses of the last step, in order (20_memory.md R37; log entry 7) -/
  accesses : List BusAccess
  /-- the cycle count the last step returned (70_reset_and_hazards.md R240; log entry 7) -/
  cycles : Nat
deriving DecidableEq, Repr

/-- Why the machine could stop with a fault: never. "Nothing in this hardware is `fault` or `stuck`"
(93_implementation_defined.md Part A; 60_exceptions.md R200), so no definition raises one and the type has no
constructor (log entry 15, safe). -/
inductive Fault where
deriving DecidableEq, Repr

/-- Why an instruction could be refused. -/
inductive Refusal where
  /-- Raised by an arm of `exec` for an instruction without a meaning. Safe. No arm raises it in this model. -/
  | notModelled (mnemonic : String)
deriving DecidableEq, Repr

/-- What a step or an instruction answers. -/
abbrev Result := Host.Outcome State Fault Refusal

/-- The machine right after power-on (10_state.md R26, 70_reset_and_hazards.md R230) with a memory that lists nothing: the
program counter is the word at 0xFFFC, which reads 0x0000 there (log entries 2 and 3); no input is active (log entry 1);
the I/O map is the NES one (log entry 4); the outputs are those of the power-on step of 60_exceptions.md R208, which reads
the two vector bytes and costs 7 cycles (R244). -/
def State.reset : State where
  a := Config.resetA
  x := Config.resetX
  y := Config.resetY
  sp := Config.resetSp
  p := Config.resetP
  pc := 0x0000
  nmiPending := false
  irqLine := false
  resetReq := false
  mem := []
  ioRegions := Config.nesIoRegions
  ioReads := 0
  accesses := [.read Config.vecReset, .read (Config.vecReset + 1#16)]
  cycles := Config.entryCycles

end Sys2Proof.Machine
end

