-- ==== Sys2Proof/Machine/Flags.lean ====
section
/-! DEFINITION. The flag register P (10_state.md R20 to R22) and every flag computation of the instruction rules. -/

namespace Sys2Proof.Machine

/-- The six flags, a closed enumeration (R22). -/
inductive Flag where
  | C | Z | I | D | V | N
deriving DecidableEq, Repr

/-- The bit position of a flag in `P` (R20). -/
def Flag.pos : Flag → Nat
  | .C => 0
  | .Z => 1
  | .I => 2
  | .D => 3
  | .V => 6
  | .N => 7

/-- The byte with only that flag's bit set. -/
def Flag.mask (f : Flag) : Byte := 1 <<< f.pos

/-- The flag `f` of a flag byte. -/
def getFlag (p : Byte) (f : Flag) : Bool := p.getLsbD f.pos

/-- `P.f <- b`: one bit by a mask operation, nothing beside it (R7, R22). -/
def putFlag (p : Byte) (f : Flag) (b : Bool) : Byte :=
  if b then p ||| f.mask else p &&& ~~~ f.mask

/-- `P.f` (R7). -/
def State.flag (s : State) (f : Flag) : Bool := getFlag s.p f

/-- Write the flag register whole. -/
def State.setP (s : State) (p : Byte) : State := { s with p := p }

/-- `P.f <- b` (R7). -/
def State.setFlag (s : State) (f : Flag) (b : Bool) : State := s.setP (putFlag s.p f b)

/-- `SetZN(v)` (R7, R20). -/
def State.setZN (s : State) (v : Byte) : State :=
  (s.setFlag .Z (decide (v = 0))).setFlag .N (v.getLsbD 7)

/-- The flag byte a pulled byte `v` loads: bits 5 and 4 stay 1 (R21). -/
def statusFromStack (v : Byte) : Byte := (v &&& 0xCF#8) ||| 0x30#8

/-- The flag byte PHP and BRK push: bits 5 and 4 are 1 (R21, 49_stack_flag_system.md R181, R191). -/
def statusWithBreak (p : Byte) : Byte := p ||| 0x30#8

/-- The flag byte IRQ and NMI entry push: bit 5 is 1 and bit 4 is 0 (R21, 60_exceptions.md R205), under the parameter
`IRQ_PUSHES_B0` (00_scope.md R4). -/
def statusWithoutBreak (p : Byte) : Byte :=
  if Config.irqPushesB0 then (p ||| 0x20#8) &&& 0xEF#8 else statusWithBreak p

/-- `A + M + P.C` as an integer, 0 to 511 (43_arithmetic.md R110). -/
def adcSum (a m : Byte) (c : Bool) : Nat := a.toNat + m.toNat + c.toNat

/-- The 8-bit result of ADC (R110). -/
def adcResult (a m : Byte) (c : Bool) : Byte := BitVec.ofNat 8 (adcSum a m c)

/-- The carry of ADC: unsigned carry out of bit 7 (R110). -/
def adcCarry (a m : Byte) (c : Bool) : Bool := decide (adcSum a m c > 255)

/-- The overflow of ADC: both inputs have the sign the result lacks (R110). -/
def adcOverflow (a m : Byte) (c : Bool) : Bool :=
  ((a ^^^ adcResult a m c) &&& (m ^^^ adcResult a m c)).getLsbD 7

/-- The flags and the accumulator ADC leaves for the operand `m` (R110); SBC gives it the complement (R111). -/
def State.addWithCarry (s : State) (m : Byte) : State :=
  let c := s.flag .C
  let s1 := (s.setFlag .C (adcCarry s.a m c)).setFlag .V (adcOverflow s.a m c)
  { s1 with a := adcResult s.a m c }.setZN (adcResult s.a m c)

/-- `Compare(R, M)` (47_compare.md). -/
def State.compare (s : State) (r m : Byte) : State :=
  ((s.setFlag .C (decide (m.toNat ≤ r.toNat))).setFlag .Z (decide (r = m))).setFlag .N ((r - m).getLsbD 7)

/-- The flags of BIT: Z from `A & M`, N and V from M itself (44_logical.md R123). -/
def State.bitFlags (s : State) (m : Byte) : State :=
  ((s.setFlag .Z (decide (s.a &&& m = 0))).setFlag .N (m.getLsbD 7)).setFlag .V (m.getLsbD 6)

/-- `(v << 1) mod 256` (45_shift_rotate.md R130). -/
def shiftLeft (v : Byte) : Byte := v <<< 1

/-- `v >> 1` (R131). -/
def shiftRight (v : Byte) : Byte := v >>> 1

/-- `((v << 1) | P.C) mod 256` (R132). -/
def rotateLeft (c : Bool) (v : Byte) : Byte := (v <<< 1) ||| bit01 c

/-- `(v >> 1) | (P.C << 7)` (R133). -/
def rotateRight (c : Bool) (v : Byte) : Byte := (v >>> 1) ||| (bit01 c <<< 7)

/-- The flags of a shift or rotate: the bit shifted out, and Z and N of the result (R130 to R133). -/
def State.shiftFlags (s : State) (out : Bool) (r : Byte) : State := (s.setFlag .C out).setZN r

end Sys2Proof.Machine
end

