-- ==== Sys2Proof/Machine/Memory.lean ====
section
/-! DEFINITION. The byte store: reading and writing one byte, and its canonical form. -/

namespace Sys2Proof.Machine

/-- What an address no entry lists reads as. The spec leaves memory at power-on to the platform (70_reset_and_hazards.md
R230, 93 A7): DESIGN CHOICE, unsafe, log entry 3. -/
def Memory.unlisted : Byte := 0x00

/-- The byte stored at address `k` (20_memory.md R31, for an address outside `IO_REGIONS`). -/
def Memory.read : Memory → Nat → Byte
  | [], _ => Memory.unlisted
  | (j, v) :: m, k => if k = j then v else Memory.read m k

/-- Put `v` at `k`, keeping addresses rising. -/
def Memory.insert : Memory → Nat → Byte → Memory
  | [], k, v => [(k, v)]
  | (j, w) :: m, k, v =>
    if k < j then (k, v) :: (j, w) :: m
    else if k = j then (k, v) :: m
    else (j, w) :: Memory.insert m k v

/-- Drop what is listed at `k`. -/
def Memory.remove : Memory → Nat → Memory
  | [], _ => []
  | (j, w) :: m, k => if k = j then Memory.remove m k else (j, w) :: Memory.remove m k

/-- Store `v` at `k` (20_memory.md R32); storing what an unlisted address reads as removes the entry. -/
def Memory.write (m : Memory) (k : Nat) (v : Byte) : Memory :=
  if v = Memory.unlisted then Memory.remove m k else Memory.insert m k v

/-- Addresses from `lo` on, strictly rising and below 65536, and no entry equal to the unlisted byte. -/
def Memory.risingFrom : Nat → Memory → Bool
  | _, [] => true
  | lo, (j, v) :: m => decide (lo ≤ j) && decide (j < 65536) && v != Memory.unlisted && Memory.risingFrom (j + 1) m

/-- The canonical form: equal memories are equal lists. -/
def Memory.wf (m : Memory) : Bool := Memory.risingFrom 0 m

end Sys2Proof.Machine
end

