-- ==== Sys2Proof/Machine/Ops.lean ====
section
/-! DEFINITION. The named operations over registers, bus and stack (00_scope.md R7), taking an exception (60_exceptions.md
R205, R208), and the return from one (49_stack_flag_system.md R192). -/

namespace Sys2Proof.Machine

/-! ### Registers -/

/-- `A <- v`. -/
def State.setA (s : State) (v : Byte) : State := { s with a := v }
/-- `X <- v`. -/
def State.setX (s : State) (v : Byte) : State := { s with x := v }
/-- `Y <- v`. -/
def State.setY (s : State) (v : Byte) : State := { s with y := v }
/-- `SP <- v`. -/
def State.setSp (s : State) (v : Byte) : State := { s with sp := v }
/-- `PC <- w`; also the control transfer `pc <- target` (R7). -/
def State.setPc (s : State) (w : Word) : State := { s with pc := w }
/-- `nmi_pending <- 0` (10_state.md R24). -/
def State.clearNmi (s : State) : State := { s with nmiPending := false }
/-- Add to the step's cycle count (70_reset_and_hazards.md R241). -/
def State.addCycles (s : State) (n : Nat) : State := { s with cycles := s.cycles + n }

/-! ### The bus -/

/-- The address belongs to a region. -/
def regionCovers (r : IoRegion) (addr : Word) : Bool := decide (r.first ≤ addr) && decide (addr ≤ r.last)

/-- The address is in `IO_REGIONS` (20_memory.md R31, R41). -/
def State.isIo (s : State) (addr : Word) : Bool := s.ioRegions.any (regionCovers · addr)

/-- The byte the bus answers a read with: the stored byte, or in `IO_REGIONS` the external agent's (R31). -/
def State.busAnswer (s : State) (addr : Word) : Byte :=
  if s.isIo addr then Config.ioRead s.ioReads addr else s.mem.read addr.toNat

/-- A read took place: it stands in the step's accesses (R37), and an I/O read uses up one free value. -/
def State.noteRead (s : State) (addr : Word) : State :=
  { s with
    accesses := s.accesses ++ [.read addr]
    ioReads := if s.isIo addr then s.ioReads + 1 else s.ioReads }

/-- `MemRead(addr, 1)` (R31): total, never faults. -/
def memRead (addr : Word) (s : State) : Byte × State := (s.busAnswer addr, s.noteRead addr)

/-- `MemWrite(addr, 1, v)` (R32): total, never faults, a write in `IO_REGIONS` included, which the owning agent sees in the
step's accesses. The stored copy at such an address is never read back (log entry 6). -/
def memWrite (addr : Word) (v : Byte) (s : State) : State :=
  { s with
    mem := s.mem.write addr.toNat v
    accesses := s.accesses ++ [.write addr v] }

/-- `Read16(addr)`: low byte, then the high byte at `addr + 1` mod 65536 (R7). -/
def read16 (addr : Word) (s : State) : Word × State :=
  let lo := memRead addr s
  let hi := memRead (addr + 1#16) lo.2
  (wordOf hi.1 lo.1, hi.2)

/-- `Read16zp(z)`: both bytes from page 0, the second at `z + 1` mod 256 (R7). -/
def read16zp (z : Byte) (s : State) : Word × State :=
  let lo := memRead (zext16 z) s
  let hi := memRead (zext16 (z + 1#8)) lo.2
  (wordOf hi.1 lo.1, hi.2)

/-! ### The stack -/

/-- The stack location `SP` designates (10_state.md R13). -/
def stackAddr (sp : Byte) : Word := Config.stackBase + zext16 sp

/-- `Push(v)`: write, then decrement mod 256 (10_state.md R15). -/
def push (v : Byte) (s : State) : State := (memWrite (stackAddr s.sp) v s).setSp (s.sp - 1#8)

/-- `Pull()`: increment mod 256, then read (10_state.md R16). -/
def pull (s : State) : Byte × State :=
  let s1 := s.setSp (s.sp + 1#8)
  memRead (stackAddr s1.sp) s1

/-- Push a 16-bit value, high byte first (20_memory.md R34). -/
def pushWord (w : Word) (s : State) : State := push (lowByte w) (push (highByte w) s)

/-- Pull a 16-bit value, low byte first (48_control_transfer.md R171). -/
def pullWord (s : State) : Word × State :=
  let lo := pull s
  let hi := pull lo.2
  (wordOf hi.1 lo.1, hi.2)

/-! ### Exceptions -/

/-- The kinds of event that load PC from a vector (60_exceptions.md R201). -/
inductive InterruptKind where
  | reset | nmi | irq | brk
deriving DecidableEq, Repr

/-- The address of the low byte of the kind's vector (R201). -/
def InterruptKind.vector : InterruptKind → Word
  | .reset => Config.vecReset
  | .nmi => Config.vecNmi
  | .irq => Config.vecIrq
  | .brk => Config.vecIrq

/-- The copy of `P` the kind pushes (R201, R205); RESET pushes none. -/
def InterruptKind.pushedStatus (k : InterruptKind) (p : Byte) : Byte :=
  match k with
  | .brk => statusWithBreak p
  | .irq => statusWithoutBreak p
  | .nmi => statusWithoutBreak p
  | .reset => statusWithoutBreak p

/-- The interrupt sequence (R205): push the return address high byte first, then the copy of `P` as it was, set I, and load
PC from the vector. -/
def interruptSequence (k : InterruptKind) (ret : Word) (s : State) : State :=
  let s1 := push (k.pushedStatus s.p) (pushWord ret s)
  let v := read16 k.vector (s1.setFlag .I true)
  v.2.setPc v.1

/-- Warm reset (R208, 10_state.md R27): three stack slots are passed over unwritten. The NMI latch is cleared also where an NMI
is requested at the same time (log entry 18). -/
def warmReset (s : State) : State :=
  let v := read16 Config.vecReset ((s.setSp (s.sp - 3#8)).setFlag .I true).clearNmi
  v.2.setPc v.1

/-- `raise Interrupt(kind)` (R7, R203): NMI entry clears its latch, IRQ and NMI save the PC of the instruction not yet
executed, and BRK, whose one byte PC has already passed, saves `pc0 + 2` (R205). -/
def raiseInterrupt (k : InterruptKind) (s : State) : State :=
  match k with
  | .reset => warmReset s
  | .nmi => interruptSequence .nmi s.pc s.clearNmi
  | .irq => interruptSequence .irq s.pc s
  | .brk => interruptSequence .brk (s.pc + 1#16) s

/-- What a step recognises at its start, in priority order; none: execute the instruction at PC (R203, R204). -/
def recognise (s : State) : Option InterruptKind :=
  if s.resetReq then some .reset
  else if s.nmiPending then some .nmi
  else if s.irqLine && !s.flag .I then some .irq
  else none

/-- The return from an interrupt (49_stack_flag_system.md R192, 60_exceptions.md R209): flags, then PC low, then PC high,
no adjustment. -/
def returnFromInterrupt (s : State) : State :=
  let v := pull s
  let w := pullWord (v.2.setP (statusFromStack v.1))
  w.2.setPc w.1

/-- A step begins: its outputs are empty (R240, 20_memory.md R37). -/
def State.beginStep (s : State) : State := { s with accesses := [], cycles := 0 }

/-- A step that takes an entry instead of an instruction (R203, R244). -/
def entryStep (k : InterruptKind) (s : State) : State :=
  (raiseInterrupt k s.beginStep).addCycles Config.entryCycles

/-- The register values power-on constructs (10_state.md R26), PC excepted. -/
def State.powerOnRegisters (s : State) : State :=
  { s with
    a := Config.resetA
    x := Config.resetX
    y := Config.resetY
    sp := Config.resetSp
    p := Config.resetP ||| 0x30#8
    nmiPending := false }

/-- Power-on (R208 cold, 10_state.md R26): construct the register values whatever they were, keep memory, the map and the
input levels, and load PC from the reset vector. It is the host's doing, not a step (log entry 11). -/
def coldReset (s : State) : State :=
  let v := read16 Config.vecReset s.beginStep.powerOnRegisters
  (v.2.setPc v.1).addCycles Config.entryCycles

end Sys2Proof.Machine
end

