-- ==== Sys2Proof/Syntax.lean ====
section
/-! DEFINITION. The instructions as data: addressing-mode tags (30_encoding.md R52), operand classes
(40_addressing_modes.md R70) and one constructor per mnemonic of spec/opcode_table.json, the operand form being its
argument (log entry 10). -/

namespace Sys2Proof

/-- The thirteen addressing-mode tags (R52). -/
inductive Mode where
  | imp | acc | imm | zp | zpx | zpy | abs | abx | aby | ind | izx | izy | rel
deriving DecidableEq, Repr

/-- The eight memory modes (R70) with their operand: an 8-bit page-zero address or a 16-bit address `{b2, b1}`. -/
inductive MemMode where
  | zp (b : Byte)
  | zpx (b : Byte)
  | zpy (b : Byte)
  | abs (addr : Word)
  | abx (base : Word)
  | aby (base : Word)
  | izx (b : Byte)
  | izy (b : Byte)
deriving DecidableEq, Repr

/-- The class *value* of R70 as an instruction that reads an operand writes it: an immediate or a memory mode. -/
inductive Source where
  | imm (v : Byte)
  | mem (m : MemMode)
deriving DecidableEq, Repr

/-- The class *location* of R70 as a shift or rotate writes it: the accumulator or a memory mode. -/
inductive Place where
  | acc
  | mem (m : MemMode)
deriving DecidableEq, Repr

/-- The class *target* of R70 for JMP: the address itself, or the address of a pointer. -/
inductive Target where
  | abs (addr : Word)
  | ind (ptr : Word)
deriving DecidableEq, Repr

/-- The instruction set (30_encoding.md R56, R58). -/
inductive Instr where
  /-- LDA (R90). -/
  | lda (src : Source)
  /-- LDX (R91). -/
  | ldx (src : Source)
  /-- LDY (R92). -/
  | ldy (src : Source)
  /-- STA (R93). -/
  | sta (dst : MemMode)
  /-- STX (R94). -/
  | stx (dst : MemMode)
  /-- STY (R95). -/
  | sty (dst : MemMode)
  /-- TAX (R100). -/
  | tax
  /-- TAY (R101). -/
  | tay
  /-- TXA (R102). -/
  | txa
  /-- TYA (R103). -/
  | tya
  /-- TSX (R104). -/
  | tsx
  /-- TXS (R105). -/
  | txs
  /-- ADC (R110). -/
  | adc (src : Source)
  /-- SBC (R111). -/
  | sbc (src : Source)
  /-- AND (R120). -/
  | and (src : Source)
  /-- ORA (R121). -/
  | ora (src : Source)
  /-- EOR (R122). -/
  | eor (src : Source)
  /-- BIT (R123). -/
  | bit (src : MemMode)
  /-- ASL (R130). -/
  | asl (dst : Place)
  /-- LSR (R131). -/
  | lsr (dst : Place)
  /-- ROL (R132). -/
  | rol (dst : Place)
  /-- ROR (R133). -/
  | ror (dst : Place)
  /-- INC (R140). -/
  | inc (dst : MemMode)
  /-- DEC (R141). -/
  | dec (dst : MemMode)
  /-- INX (R142). -/
  | inx
  /-- INY (R143). -/
  | iny
  /-- DEX (R144). -/
  | dex
  /-- DEY (R145). -/
  | dey
  /-- CMP (R150). -/
  | cmp (src : Source)
  /-- CPX (R151). -/
  | cpx (src : Source)
  /-- CPY (R152). -/
  | cpy (src : Source)
  /-- BCC (R161). -/
  | bcc (disp : Byte)
  /-- BCS (R162). -/
  | bcs (disp : Byte)
  /-- BEQ (R163). -/
  | beq (disp : Byte)
  /-- BNE (R164). -/
  | bne (disp : Byte)
  /-- BMI (R165). -/
  | bmi (disp : Byte)
  /-- BPL (R166). -/
  | bpl (disp : Byte)
  /-- BVC (R167). -/
  | bvc (disp : Byte)
  /-- BVS (R168). -/
  | bvs (disp : Byte)
  /-- JMP (R169). -/
  | jmp (target : Target)
  /-- JSR (R170). -/
  | jsr (target : Word)
  /-- RTS (R171). -/
  | rts
  /-- PHA (R180). -/
  | pha
  /-- PHP (R181). -/
  | php
  /-- PLA (R182). -/
  | pla
  /-- PLP (R183). -/
  | plp
  /-- CLC (R184). -/
  | clc
  /-- SEC (R185). -/
  | sec
  /-- CLI (R186). -/
  | cli
  /-- SEI (R187). -/
  | sei
  /-- CLD (R188). -/
  | cld
  /-- SED (R189). -/
  | sed
  /-- CLV (R190). -/
  | clv
  /-- BRK (R191). -/
  | brk
  /-- RTI (R192). -/
  | rti
  /-- NOP (R193). -/
  | nop
  /-- UNUSED (R194). -/
  | unused (op : Byte)
deriving DecidableEq, Repr

/-- The tag of a memory mode (R52). -/
def MemMode.mode : MemMode → Mode
  | .zp _ => .zp
  | .zpx _ => .zpx
  | .zpy _ => .zpy
  | .abs _ => .abs
  | .abx _ => .abx
  | .aby _ => .aby
  | .izx _ => .izx
  | .izy _ => .izy

/-- The tag of a value operand (R52). -/
def Source.mode : Source → Mode
  | .imm _ => .imm
  | .mem m => m.mode

/-- The tag of a location operand (R52). -/
def Place.mode : Place → Mode
  | .acc => .acc
  | .mem m => m.mode

/-- The tag of a jump target (R52). -/
def Target.mode : Target → Mode
  | .abs _ => .abs
  | .ind _ => .ind

/-- The addressing-mode tag of an instruction (R52). -/
def Instr.mode : Instr → Mode
  | .lda o => o.mode
  | .ldx o => o.mode
  | .ldy o => o.mode
  | .sta o => o.mode
  | .stx o => o.mode
  | .sty o => o.mode
  | .tax => .imp
  | .tay => .imp
  | .txa => .imp
  | .tya => .imp
  | .tsx => .imp
  | .txs => .imp
  | .adc o => o.mode
  | .sbc o => o.mode
  | .and o => o.mode
  | .ora o => o.mode
  | .eor o => o.mode
  | .bit o => o.mode
  | .asl o => o.mode
  | .lsr o => o.mode
  | .rol o => o.mode
  | .ror o => o.mode
  | .inc o => o.mode
  | .dec o => o.mode
  | .inx => .imp
  | .iny => .imp
  | .dex => .imp
  | .dey => .imp
  | .cmp o => o.mode
  | .cpx o => o.mode
  | .cpy o => o.mode
  | .bcc _ => .rel
  | .bcs _ => .rel
  | .beq _ => .rel
  | .bne _ => .rel
  | .bmi _ => .rel
  | .bpl _ => .rel
  | .bvc _ => .rel
  | .bvs _ => .rel
  | .jmp o => o.mode
  | .jsr _ => .abs
  | .rts => .imp
  | .pha => .imp
  | .php => .imp
  | .pla => .imp
  | .plp => .imp
  | .clc => .imp
  | .sec => .imp
  | .cli => .imp
  | .sei => .imp
  | .cld => .imp
  | .sed => .imp
  | .clv => .imp
  | .brk => .imp
  | .rti => .imp
  | .nop => .imp
  | .unused _ => .imp

/-- The mnemonic as spec/opcode_table.json spells it (R56, R58). -/
def Instr.mnemonic : Instr → String
  | .lda _ => "LDA"
  | .ldx _ => "LDX"
  | .ldy _ => "LDY"
  | .sta _ => "STA"
  | .stx _ => "STX"
  | .sty _ => "STY"
  | .tax => "TAX"
  | .tay => "TAY"
  | .txa => "TXA"
  | .tya => "TYA"
  | .tsx => "TSX"
  | .txs => "TXS"
  | .adc _ => "ADC"
  | .sbc _ => "SBC"
  | .and _ => "AND"
  | .ora _ => "ORA"
  | .eor _ => "EOR"
  | .bit _ => "BIT"
  | .asl _ => "ASL"
  | .lsr _ => "LSR"
  | .rol _ => "ROL"
  | .ror _ => "ROR"
  | .inc _ => "INC"
  | .dec _ => "DEC"
  | .inx => "INX"
  | .iny => "INY"
  | .dex => "DEX"
  | .dey => "DEY"
  | .cmp _ => "CMP"
  | .cpx _ => "CPX"
  | .cpy _ => "CPY"
  | .bcc _ => "BCC"
  | .bcs _ => "BCS"
  | .beq _ => "BEQ"
  | .bne _ => "BNE"
  | .bmi _ => "BMI"
  | .bpl _ => "BPL"
  | .bvc _ => "BVC"
  | .bvs _ => "BVS"
  | .jmp _ => "JMP"
  | .jsr _ => "JSR"
  | .rts => "RTS"
  | .pha => "PHA"
  | .php => "PHP"
  | .pla => "PLA"
  | .plp => "PLP"
  | .clc => "CLC"
  | .sec => "SEC"
  | .cli => "CLI"
  | .sei => "SEI"
  | .cld => "CLD"
  | .sed => "SED"
  | .clv => "CLV"
  | .brk => "BRK"
  | .rti => "RTI"
  | .nop => "NOP"
  | .unused _ => "UNUSED"

end Sys2Proof
end

