-- ==== Sys2Proof/Machine/Operands.lean ====
section
/-! DEFINITION. The addressing-mode resolver (40_addressing_modes.md): every operand form, its effective address, its
page-cross flag and the accesses it makes. -/

namespace Sys2Proof.Machine

/-- What the resolver answers: the effective address and the page-cross flag. -/
structure Resolved where
  ea : Word
  cross : Bool
deriving DecidableEq, Repr

/-- Two addresses lie in different pages. -/
def pageCross (u v : Word) : Bool := highByte u != highByte v

/-- `base + index` mod 65536, with the page-cross flag against the base (R78, R81). -/
def indexed (base : Word) (index : Byte) : Resolved :=
  ⟨base + zext16 index, pageCross (base + zext16 index) base⟩

/-- Resolve a memory mode (R74 to R78, R80, R81); the pointer reads of IZX and IZY take place (20_memory.md R37). -/
def resolve (m : MemMode) (s : State) : Resolved × State :=
  match m with
  | .zp b => (⟨zext16 b, false⟩, s)
  | .zpx b => (⟨zext16 (b + s.x), false⟩, s)
  | .zpy b => (⟨zext16 (b + s.y), false⟩, s)
  | .abs w => (⟨w, false⟩, s)
  | .abx w => (indexed w s.x, s)
  | .aby w => (indexed w s.y, s)
  | .izx b => let r := read16zp (b + s.x) s; (⟨r.1, false⟩, r.2)
  | .izy b => let r := read16zp b s; (indexed r.1 s.y, r.2)

/-- The effective address a memory mode gives in `s`. -/
def effAddr (m : MemMode) (s : State) : Word := (resolve m s).1.ea

/-- The page-cross penalty (70_reset_and_hazards.md R242), for the read-type instructions. -/
def penalty (cross : Bool) : Nat := if cross then 1 else 0

/-- Read the operand of a read-type instruction from memory (R70, 20_memory.md R37), with its page-cross penalty (R242). -/
def readMem (m : MemMode) (s : State) : Byte × State :=
  let r := resolve m s
  memRead r.1.ea (r.2.addCycles (penalty r.1.cross))

/-- Read a *value* operand (R70, R73). -/
def readSource (src : Source) (s : State) : Byte × State :=
  match src with
  | .imm v => (v, s)
  | .mem m => readMem m s

/-- Store a byte at a *location* in memory (R70): the target is not read first (20_memory.md R37) and a page cross costs
nothing (R242). -/
def storeTo (m : MemMode) (v : Byte) (s : State) : State :=
  let r := resolve m s
  memWrite r.1.ea v r.2

/-- Read-modify-write of a memory byte: one read, one write, of `f` of the byte read, with
nothing between them (20_memory.md R36, R37; the only sense in which an instruction is atomic, R46). It answers the
byte read. -/
def updateMem (m : MemMode) (f : Byte → Byte) (s : State) : Byte × State :=
  let r := resolve m s
  let v := memRead r.1.ea r.2
  (v.1, memWrite r.1.ea (f v.1) v.2)

/-- Replace the operand of a shift or rotate, A or a memory byte, by `f` of it (R70, R72). It answers the old byte. -/
def updatePlace (pl : Place) (f : Byte → Byte) (s : State) : Byte × State :=
  match pl with
  | .acc => (s.a, s.setA (f s.a))
  | .mem m => updateMem m f s

/-- The address of the high byte of JMP's pointer (R79), under the parameter `JMP_IND_PAGE_WRAP` (00_scope.md R4). -/
def pointerHighAddr (ptr : Word) : Word :=
  if Config.jmpIndPageWrap then wordOf (highByte ptr) (lowByte ptr + 1#8) else ptr + 1#16

/-- The *target* of JMP (R77, R79): the ABS address is not read, the IND pointer is. -/
def jumpTarget (t : Target) (s : State) : Word × State :=
  match t with
  | .abs w => (w, s)
  | .ind ptr =>
    let lo := memRead ptr s
    let hi := memRead (pointerHighAddr ptr) lo.2
    (wordOf hi.1 lo.1, hi.2)

/-- The target of a branch (R82): `next`, to which PC has already advanced, plus the signed displacement. -/
def branchTarget (next : Word) (disp : Byte) : Word := next + sext16 disp

/-- `Branch(f, want)` of 48_control_transfer.md R160: taken costs 1, or 2 into another page (70_reset_and_hazards.md R243). -/
def branchIf (f : Flag) (want : Bool) (disp : Byte) (s : State) : State :=
  if s.flag f = want then
    (s.setPc (branchTarget s.pc disp)).addCycles (1 + penalty (pageCross (branchTarget s.pc disp) s.pc))
  else s

end Sys2Proof.Machine
end

