-- ==== Sys2Proof/Machine/Arithmetic.lean ====
section
/-! DEFINITION. The meanings of 43_arithmetic.md: ADC, SBC, always binary. -/

namespace Sys2Proof.Machine

/-- ADC (R110). -/
def execAdc (src : Source) (s : State) : Result :=
  let v := readSource src s
  .next (v.2.addWithCarry v.1)

/-- SBC (R111: ADC of the one's complement). -/
def execSbc (src : Source) (s : State) : Result :=
  let v := readSource src s
  .next (v.2.addWithCarry (v.1 ^^^ 0xFF#8))

end Sys2Proof.Machine
end

