-- ==== Sys2Proof/Machine/Compare.lean ====
section
/-! DEFINITION. The meanings of 47_compare.md: CMP, CPX, CPY. -/

namespace Sys2Proof.Machine

/-- CMP (R150). -/
def execCmp (src : Source) (s : State) : Result :=
  let v := readSource src s
  .next (v.2.compare v.2.a v.1)

/-- CPX (R151). -/
def execCpx (src : Source) (s : State) : Result :=
  let v := readSource src s
  .next (v.2.compare v.2.x v.1)

/-- CPY (R152). -/
def execCpy (src : Source) (s : State) : Result :=
  let v := readSource src s
  .next (v.2.compare v.2.y v.1)

end Sys2Proof.Machine
end

