-- ==== Sys2Proof/Machine/Control.lean ====
section
/-! DEFINITION. The meanings of 48_control_transfer.md: the branches, JMP, JSR, RTS. PC has advanced past the instruction (00_scope.md R9; log entry 9). -/

namespace Sys2Proof.Machine

/-- BCC (R161). -/
def execBcc (disp : Byte) (s : State) : Result :=
  .next (branchIf .C false disp s)

/-- BCS (R162). -/
def execBcs (disp : Byte) (s : State) : Result :=
  .next (branchIf .C true disp s)

/-- BEQ (R163). -/
def execBeq (disp : Byte) (s : State) : Result :=
  .next (branchIf .Z true disp s)

/-- BNE (R164). -/
def execBne (disp : Byte) (s : State) : Result :=
  .next (branchIf .Z false disp s)

/-- BMI (R165). -/
def execBmi (disp : Byte) (s : State) : Result :=
  .next (branchIf .N true disp s)

/-- BPL (R166). -/
def execBpl (disp : Byte) (s : State) : Result :=
  .next (branchIf .N false disp s)

/-- BVC (R167). -/
def execBvc (disp : Byte) (s : State) : Result :=
  .next (branchIf .V false disp s)

/-- BVS (R168). -/
def execBvs (disp : Byte) (s : State) : Result :=
  .next (branchIf .V true disp s)

/-- JMP (R169). -/
def execJmp (target : Target) (s : State) : Result :=
  let t := jumpTarget target s
  .next (t.2.setPc t.1)

/-- JSR (R170: what is pushed is the address of the last byte of the JSR, `pc0 + 2`, where PC is `pc0 + 3`). -/
def execJsr (target : Word) (s : State) : Result :=
  .next ((pushWord (s.pc - 1#16) s).setPc target)

/-- RTS (R171). -/
def execRts (s : State) : Result :=
  let w := pullWord s
  .next (w.2.setPc (w.1 + 1#16))

end Sys2Proof.Machine
end

