-- ==== Sys2Proof/Machine/IncDec.lean ====
section
/-! DEFINITION. The meanings of 46_inc_dec.md: INC, DEC, INX, INY, DEX, DEY. -/

namespace Sys2Proof.Machine

/-- INC (R140). -/
def execInc (dst : MemMode) (s : State) : Result :=
  let v := updateMem dst (· + 1#8) s
  .next (v.2.setZN (v.1 + 1#8))

/-- DEC (R141). -/
def execDec (dst : MemMode) (s : State) : Result :=
  let v := updateMem dst (· - 1#8) s
  .next (v.2.setZN (v.1 - 1#8))

/-- INX (R142). -/
def execInx (s : State) : Result :=
  .next ((s.setX (s.x + 1#8)).setZN (s.x + 1#8))

/-- INY (R143). -/
def execIny (s : State) : Result :=
  .next ((s.setY (s.y + 1#8)).setZN (s.y + 1#8))

/-- DEX (R144). -/
def execDex (s : State) : Result :=
  .next ((s.setX (s.x - 1#8)).setZN (s.x - 1#8))

/-- DEY (R145). -/
def execDey (s : State) : Result :=
  .next ((s.setY (s.y - 1#8)).setZN (s.y - 1#8))

end Sys2Proof.Machine
end

