-- ==== Sys2Proof/Machine/LoadStore.lean ====
section
/-! DEFINITION. The meanings of 41_load_store.md: LDA, LDX, LDY, STA, STX, STY. -/

namespace Sys2Proof.Machine

/-- LDA (R90). -/
def execLda (src : Source) (s : State) : Result :=
  let v := readSource src s
  .next ((v.2.setA v.1).setZN v.1)

/-- LDX (R91). -/
def execLdx (src : Source) (s : State) : Result :=
  let v := readSource src s
  .next ((v.2.setX v.1).setZN v.1)

/-- LDY (R92). -/
def execLdy (src : Source) (s : State) : Result :=
  let v := readSource src s
  .next ((v.2.setY v.1).setZN v.1)

/-- STA (R93). -/
def execSta (dst : MemMode) (s : State) : Result :=
  .next (storeTo dst s.a s)

/-- STX (R94). -/
def execStx (dst : MemMode) (s : State) : Result :=
  .next (storeTo dst s.x s)

/-- STY (R95). -/
def execSty (dst : MemMode) (s : State) : Result :=
  .next (storeTo dst s.y s)

end Sys2Proof.Machine
end

