-- ==== Sys2Proof/Machine/Logical.lean ====
section
/-! DEFINITION. The meanings of 44_logical.md: AND, ORA, EOR, BIT. -/

namespace Sys2Proof.Machine

/-- AND (R120). -/
def execAnd (src : Source) (s : State) : Result :=
  let v := readSource src s
  .next ((v.2.setA (v.2.a &&& v.1)).setZN (v.2.a &&& v.1))

/-- ORA (R121). -/
def execOra (src : Source) (s : State) : Result :=
  let v := readSource src s
  .next ((v.2.setA (v.2.a ||| v.1)).setZN (v.2.a ||| v.1))

/-- EOR (R122). -/
def execEor (src : Source) (s : State) : Result :=
  let v := readSource src s
  .next ((v.2.setA (v.2.a ^^^ v.1)).setZN (v.2.a ^^^ v.1))

/-- BIT (R123). -/
def execBit (src : MemMode) (s : State) : Result :=
  let v := readMem src s
  .next (v.2.bitFlags v.1)

end Sys2Proof.Machine
end

