-- ==== Sys2Proof/Machine/Shift.lean ====
section
/-! DEFINITION. The meanings of 45_shift_rotate.md: ASL, LSR, ROL, ROR. -/

namespace Sys2Proof.Machine

/-- ASL (R130). -/
def execAsl (dst : Place) (s : State) : Result :=
  let v := updatePlace dst shiftLeft s
  .next (v.2.shiftFlags (v.1.getLsbD 7) (shiftLeft v.1))

/-- LSR (R131). -/
def execLsr (dst : Place) (s : State) : Result :=
  let v := updatePlace dst shiftRight s
  .next (v.2.shiftFlags (v.1.getLsbD 0) (shiftRight v.1))

/-- ROL (R132). -/
def execRol (dst : Place) (s : State) : Result :=
  let v := updatePlace dst (rotateLeft (s.flag .C)) s
  .next (v.2.shiftFlags (v.1.getLsbD 7) (rotateLeft (s.flag .C) v.1))

/-- ROR (R133). -/
def execRor (dst : Place) (s : State) : Result :=
  let v := updatePlace dst (rotateRight (s.flag .C)) s
  .next (v.2.shiftFlags (v.1.getLsbD 0) (rotateRight (s.flag .C) v.1))

end Sys2Proof.Machine
end

