-- ==== Sys2Proof/Machine/System.lean ====
section
/-! DEFINITION. The meanings of 49_stack_flag_system.md: PHA, PHP, PLA, PLP, the flag instructions, BRK, RTI, NOP, UNUSED. -/

namespace Sys2Proof.Machine

/-- PHA (R180). -/
def execPha (s : State) : Result :=
  .next (push s.a s)

/-- PHP (R181). -/
def execPhp (s : State) : Result :=
  .next (push (statusWithBreak s.p) s)

/-- PLA (R182). -/
def execPla (s : State) : Result :=
  let v := pull s
  .next ((v.2.setA v.1).setZN v.1)

/-- PLP (R183). -/
def execPlp (s : State) : Result :=
  let v := pull s
  .next (v.2.setP (statusFromStack v.1))

/-- CLC (R184). -/
def execClc (s : State) : Result :=
  .next (s.setFlag .C false)

/-- SEC (R185). -/
def execSec (s : State) : Result :=
  .next (s.setFlag .C true)

/-- CLI (R186). -/
def execCli (s : State) : Result :=
  .next (s.setFlag .I false)

/-- SEI (R187). -/
def execSei (s : State) : Result :=
  .next (s.setFlag .I true)

/-- CLD (R188). -/
def execCld (s : State) : Result :=
  .next (s.setFlag .D false)

/-- SED (R189). -/
def execSed (s : State) : Result :=
  .next (s.setFlag .D true)

/-- CLV (R190). -/
def execClv (s : State) : Result :=
  .next (s.setFlag .V false)

/-- BRK (R191: the interrupt sequence of 60_exceptions.md R205). -/
def execBrk (s : State) : Result :=
  .next (raiseInterrupt .brk s)

/-- RTI (R192). -/
def execRti (s : State) : Result :=
  .next (returnFromInterrupt s)

/-- NOP (R193). -/
def execNop (s : State) : Result :=
  .next s

/-- UNUSED (R194: no effect). -/
def execUnused (_op : Byte) (s : State) : Result :=
  .next s

end Sys2Proof.Machine
end

