-- ==== Sys2Proof/Machine/Transfer.lean ====
section
/-! DEFINITION. The meanings of 42_transfer.md: TAX, TAY, TXA, TYA, TSX, TXS. -/

namespace Sys2Proof.Machine

/-- TAX (R100). -/
def execTax (s : State) : Result :=
  .next ((s.setX s.a).setZN s.a)

/-- TAY (R101). -/
def execTay (s : State) : Result :=
  .next ((s.setY s.a).setZN s.a)

/-- TXA (R102). -/
def execTxa (s : State) : Result :=
  .next ((s.setA s.x).setZN s.x)

/-- TYA (R103). -/
def execTya (s : State) : Result :=
  .next ((s.setA s.y).setZN s.y)

/-- TSX (R104). -/
def execTsx (s : State) : Result :=
  .next ((s.setX s.sp).setZN s.sp)

/-- TXS (R105, which writes no flag). -/
def execTxs (s : State) : Result :=
  .next (s.setSp s.x)

end Sys2Proof.Machine
end

