-- ==== Sys2Proof/WellFormed.lean ====
section
/-! DEFINITION. Which instructions have an encoding: the modes each mnemonic admits (40_addressing_modes.md R84, the set of
opcodes of 30_encoding.md R56) and the 105 unused byte values (R58). -/

namespace Sys2Proof

/-- The 105 unused opcode bytes, as 30_encoding.md R58 lists them. -/
def unusedOpcodes : List Byte :=
  [0x02, 0x03, 0x04, 0x07, 0x0B, 0x0C, 0x0F, 0x12, 0x13, 0x14, 0x17, 0x1A, 0x1B, 0x1C, 0x1F] ++
  [0x22, 0x23, 0x27, 0x2B, 0x2F, 0x32, 0x33, 0x34, 0x37, 0x3A, 0x3B, 0x3C, 0x3F, 0x42, 0x43] ++
  [0x44, 0x47, 0x4B, 0x4F, 0x52, 0x53, 0x54, 0x57, 0x5A, 0x5B, 0x5C, 0x5F, 0x62, 0x63, 0x64] ++
  [0x67, 0x6B, 0x6F, 0x72, 0x73, 0x74, 0x77, 0x7A, 0x7B, 0x7C, 0x7F, 0x80, 0x82, 0x83, 0x87] ++
  [0x89, 0x8B, 0x8F, 0x92, 0x93, 0x97, 0x9B, 0x9C, 0x9E, 0x9F, 0xA3, 0xA7, 0xAB, 0xAF, 0xB2] ++
  [0xB3, 0xB7, 0xBB, 0xBF, 0xC2, 0xC3, 0xC7, 0xCB, 0xCF, 0xD2, 0xD3, 0xD4, 0xD7, 0xDA, 0xDB] ++
  [0xDC, 0xDF, 0xE2, 0xE3, 0xE7, 0xEB, 0xEF, 0xF2, 0xF3, 0xF4, 0xF7, 0xFA, 0xFB, 0xFC, 0xFF]

/-- The modes of the eight-mode accumulator instructions LDA, ADC, SBC, AND, ORA, EOR, CMP (R56). -/
def accumulatorModes : List Mode := [.imm, .zp, .zpx, .abs, .abx, .aby, .izx, .izy]
/-- The modes of the four shifts and rotates (R56). -/
def shiftModes : List Mode := [.acc, .zp, .zpx, .abs, .abx]

/-- `i` has an encoding: its operand form is one its mnemonic admits, an unused instruction carries an unused byte. -/
def Instr.wf : Instr → Bool
  | .lda src => accumulatorModes.contains src.mode
  | .ldx o => ([.imm, .zp, .zpy, .abs, .aby] : List Mode).contains o.mode
  | .ldy o => ([.imm, .zp, .zpx, .abs, .abx] : List Mode).contains o.mode
  | .sta o => ([.zp, .zpx, .abs, .abx, .aby, .izx, .izy] : List Mode).contains o.mode
  | .stx o => ([.zp, .zpy, .abs] : List Mode).contains o.mode
  | .sty o => ([.zp, .zpx, .abs] : List Mode).contains o.mode
  | .tax => true
  | .tay => true
  | .txa => true
  | .tya => true
  | .tsx => true
  | .txs => true
  | .adc src => accumulatorModes.contains src.mode
  | .sbc src => accumulatorModes.contains src.mode
  | .and src => accumulatorModes.contains src.mode
  | .ora src => accumulatorModes.contains src.mode
  | .eor src => accumulatorModes.contains src.mode
  | .bit o => ([.zp, .abs] : List Mode).contains o.mode
  | .asl dst => shiftModes.contains dst.mode
  | .lsr dst => shiftModes.contains dst.mode
  | .rol dst => shiftModes.contains dst.mode
  | .ror dst => shiftModes.contains dst.mode
  | .inc o => ([.zp, .zpx, .abs, .abx] : List Mode).contains o.mode
  | .dec o => ([.zp, .zpx, .abs, .abx] : List Mode).contains o.mode
  | .inx => true
  | .iny => true
  | .dex => true
  | .dey => true
  | .cmp src => accumulatorModes.contains src.mode
  | .cpx o => ([.imm, .zp, .abs] : List Mode).contains o.mode
  | .cpy o => ([.imm, .zp, .abs] : List Mode).contains o.mode
  | .bcc _ => true
  | .bcs _ => true
  | .beq _ => true
  | .bne _ => true
  | .bmi _ => true
  | .bpl _ => true
  | .bvc _ => true
  | .bvs _ => true
  | .jmp o => ([.abs, .ind] : List Mode).contains o.mode
  | .jsr _ => true
  | .rts => true
  | .pha => true
  | .php => true
  | .pla => true
  | .plp => true
  | .clc => true
  | .sec => true
  | .cli => true
  | .sei => true
  | .cld => true
  | .sed => true
  | .clv => true
  | .brk => true
  | .rti => true
  | .nop => true
  | .unused op => unusedOpcodes.contains op

/-- The well-formed instructions. -/
abbrev Instr.WellFormed (i : Instr) : Prop := i.wf = true

end Sys2Proof
end

