-- ==== Sys2Proof/Decode.lean ====
section
/-! DEFINITION. The decoder (30_encoding.md R50 to R55, R58), the opcode descriptor of R53, and the encoder (R56). Both are
written from the spec's tables, the decoder from the map by high and low nibble (R55), the encoder from the same map by
mnemonic (R56). -/

namespace Sys2Proof

/-- Row 0x of the opcode map (R55): columns x0 to xF; `b` is operand byte b1 and `c` is b2 (R51). -/
def opcodeRow0 : List (Byte → Byte → Instr) :=
  [fun _ _ => .brk,
   fun b _ => .ora (.mem (.izx b)),
   fun _ _ => .unused 0x02,
   fun _ _ => .unused 0x03,
   fun _ _ => .unused 0x04,
   fun b _ => .ora (.mem (.zp b)),
   fun b _ => .asl (.mem (.zp b)),
   fun _ _ => .unused 0x07,
   fun _ _ => .php,
   fun b _ => .ora (.imm b),
   fun _ _ => .asl .acc,
   fun _ _ => .unused 0x0B,
   fun _ _ => .unused 0x0C,
   fun b c => .ora (.mem (.abs (wordOf c b))),
   fun b c => .asl (.mem (.abs (wordOf c b))),
   fun _ _ => .unused 0x0F]

/-- Row 1x of the opcode map (R55): columns x0 to xF; `b` is operand byte b1 and `c` is b2 (R51). -/
def opcodeRow1 : List (Byte → Byte → Instr) :=
  [fun b _ => .bpl b,
   fun b _ => .ora (.mem (.izy b)),
   fun _ _ => .unused 0x12,
   fun _ _ => .unused 0x13,
   fun _ _ => .unused 0x14,
   fun b _ => .ora (.mem (.zpx b)),
   fun b _ => .asl (.mem (.zpx b)),
   fun _ _ => .unused 0x17,
   fun _ _ => .clc,
   fun b c => .ora (.mem (.aby (wordOf c b))),
   fun _ _ => .unused 0x1A,
   fun _ _ => .unused 0x1B,
   fun _ _ => .unused 0x1C,
   fun b c => .ora (.mem (.abx (wordOf c b))),
   fun b c => .asl (.mem (.abx (wordOf c b))),
   fun _ _ => .unused 0x1F]

/-- Row 2x of the opcode map (R55): columns x0 to xF; `b` is operand byte b1 and `c` is b2 (R51). -/
def opcodeRow2 : List (Byte → Byte → Instr) :=
  [fun b c => .jsr (wordOf c b),
   fun b _ => .and (.mem (.izx b)),
   fun _ _ => .unused 0x22,
   fun _ _ => .unused 0x23,
   fun b _ => .bit (.zp b),
   fun b _ => .and (.mem (.zp b)),
   fun b _ => .rol (.mem (.zp b)),
   fun _ _ => .unused 0x27,
   fun _ _ => .plp,
   fun b _ => .and (.imm b),
   fun _ _ => .rol .acc,
   fun _ _ => .unused 0x2B,
   fun b c => .bit (.abs (wordOf c b)),
   fun b c => .and (.mem (.abs (wordOf c b))),
   fun b c => .rol (.mem (.abs (wordOf c b))),
   fun _ _ => .unused 0x2F]

/-- Row 3x of the opcode map (R55): columns x0 to xF; `b` is operand byte b1 and `c` is b2 (R51). -/
def opcodeRow3 : List (Byte → Byte → Instr) :=
  [fun b _ => .bmi b,
   fun b _ => .and (.mem (.izy b)),
   fun _ _ => .unused 0x32,
   fun _ _ => .unused 0x33,
   fun _ _ => .unused 0x34,
   fun b _ => .and (.mem (.zpx b)),
   fun b _ => .rol (.mem (.zpx b)),
   fun _ _ => .unused 0x37,
   fun _ _ => .sec,
   fun b c => .and (.mem (.aby (wordOf c b))),
   fun _ _ => .unused 0x3A,
   fun _ _ => .unused 0x3B,
   fun _ _ => .unused 0x3C,
   fun b c => .and (.mem (.abx (wordOf c b))),
   fun b c => .rol (.mem (.abx (wordOf c b))),
   fun _ _ => .unused 0x3F]

/-- Row 4x of the opcode map (R55): columns x0 to xF; `b` is operand byte b1 and `c` is b2 (R51). -/
def opcodeRow4 : List (Byte → Byte → Instr) :=
  [fun _ _ => .rti,
   fun b _ => .eor (.mem (.izx b)),
   fun _ _ => .unused 0x42,
   fun _ _ => .unused 0x43,
   fun _ _ => .unused 0x44,
   fun b _ => .eor (.mem (.zp b)),
   fun b _ => .lsr (.mem (.zp b)),
   fun _ _ => .unused 0x47,
   fun _ _ => .pha,
   fun b _ => .eor (.imm b),
   fun _ _ => .lsr .acc,
   fun _ _ => .unused 0x4B,
   fun b c => .jmp (.abs (wordOf c b)),
   fun b c => .eor (.mem (.abs (wordOf c b))),
   fun b c => .lsr (.mem (.abs (wordOf c b))),
   fun _ _ => .unused 0x4F]

/-- Row 5x of the opcode map (R55): columns x0 to xF; `b` is operand byte b1 and `c` is b2 (R51). -/
def opcodeRow5 : List (Byte → Byte → Instr) :=
  [fun b _ => .bvc b,
   fun b _ => .eor (.mem (.izy b)),
   fun _ _ => .unused 0x52,
   fun _ _ => .unused 0x53,
   fun _ _ => .unused 0x54,
   fun b _ => .eor (.mem (.zpx b)),
   fun b _ => .lsr (.mem (.zpx b)),
   fun _ _ => .unused 0x57,
   fun _ _ => .cli,
   fun b c => .eor (.mem (.aby (wordOf c b))),
   fun _ _ => .unused 0x5A,
   fun _ _ => .unused 0x5B,
   fun _ _ => .unused 0x5C,
   fun b c => .eor (.mem (.abx (wordOf c b))),
   fun b c => .lsr (.mem (.abx (wordOf c b))),
   fun _ _ => .unused 0x5F]

/-- Row 6x of the opcode map (R55): columns x0 to xF; `b` is operand byte b1 and `c` is b2 (R51). -/
def opcodeRow6 : List (Byte → Byte → Instr) :=
  [fun _ _ => .rts,
   fun b _ => .adc (.mem (.izx b)),
   fun _ _ => .unused 0x62,
   fun _ _ => .unused 0x63,
   fun _ _ => .unused 0x64,
   fun b _ => .adc (.mem (.zp b)),
   fun b _ => .ror (.mem (.zp b)),
   fun _ _ => .unused 0x67,
   fun _ _ => .pla,
   fun b _ => .adc (.imm b),
   fun _ _ => .ror .acc,
   fun _ _ => .unused 0x6B,
   fun b c => .jmp (.ind (wordOf c b)),
   fun b c => .adc (.mem (.abs (wordOf c b))),
   fun b c => .ror (.mem (.abs (wordOf c b))),
   fun _ _ => .unused 0x6F]

/-- Row 7x of the opcode map (R55): columns x0 to xF; `b` is operand byte b1 and `c` is b2 (R51). -/
def opcodeRow7 : List (Byte → Byte → Instr) :=
  [fun b _ => .bvs b,
   fun b _ => .adc (.mem (.izy b)),
   fun _ _ => .unused 0x72,
   fun _ _ => .unused 0x73,
   fun _ _ => .unused 0x74,
   fun b _ => .adc (.mem (.zpx b)),
   fun b _ => .ror (.mem (.zpx b)),
   fun _ _ => .unused 0x77,
   fun _ _ => .sei,
   fun b c => .adc (.mem (.aby (wordOf c b))),
   fun _ _ => .unused 0x7A,
   fun _ _ => .unused 0x7B,
   fun _ _ => .unused 0x7C,
   fun b c => .adc (.mem (.abx (wordOf c b))),
   fun b c => .ror (.mem (.abx (wordOf c b))),
   fun _ _ => .unused 0x7F]

/-- Row 8x of the opcode map (R55): columns x0 to xF; `b` is operand byte b1 and `c` is b2 (R51). -/
def opcodeRow8 : List (Byte → Byte → Instr) :=
  [fun _ _ => .unused 0x80,
   fun b _ => .sta (.izx b),
   fun _ _ => .unused 0x82,
   fun _ _ => .unused 0x83,
   fun b _ => .sty (.zp b),
   fun b _ => .sta (.zp b),
   fun b _ => .stx (.zp b),
   fun _ _ => .unused 0x87,
   fun _ _ => .dey,
   fun _ _ => .unused 0x89,
   fun _ _ => .txa,
   fun _ _ => .unused 0x8B,
   fun b c => .sty (.abs (wordOf c b)),
   fun b c => .sta (.abs (wordOf c b)),
   fun b c => .stx (.abs (wordOf c b)),
   fun _ _ => .unused 0x8F]

/-- Row 9x of the opcode map (R55): columns x0 to xF; `b` is operand byte b1 and `c` is b2 (R51). -/
def opcodeRow9 : List (Byte → Byte → Instr) :=
  [fun b _ => .bcc b,
   fun b _ => .sta (.izy b),
   fun _ _ => .unused 0x92,
   fun _ _ => .unused 0x93,
   fun b _ => .sty (.zpx b),
   fun b _ => .sta (.zpx b),
   fun b _ => .stx (.zpy b),
   fun _ _ => .unused 0x97,
   fun _ _ => .tya,
   fun b c => .sta (.aby (wordOf c b)),
   fun _ _ => .txs,
   fun _ _ => .unused 0x9B,
   fun _ _ => .unused 0x9C,
   fun b c => .sta (.abx (wordOf c b)),
   fun _ _ => .unused 0x9E,
   fun _ _ => .unused 0x9F]

/-- Row Ax of the opcode map (R55): columns x0 to xF; `b` is operand byte b1 and `c` is b2 (R51). -/
def opcodeRowA : List (Byte → Byte → Instr) :=
  [fun b _ => .ldy (.imm b),
   fun b _ => .lda (.mem (.izx b)),
   fun b _ => .ldx (.imm b),
   fun _ _ => .unused 0xA3,
   fun b _ => .ldy (.mem (.zp b)),
   fun b _ => .lda (.mem (.zp b)),
   fun b _ => .ldx (.mem (.zp b)),
   fun _ _ => .unused 0xA7,
   fun _ _ => .tay,
   fun b _ => .lda (.imm b),
   fun _ _ => .tax,
   fun _ _ => .unused 0xAB,
   fun b c => .ldy (.mem (.abs (wordOf c b))),
   fun b c => .lda (.mem (.abs (wordOf c b))),
   fun b c => .ldx (.mem (.abs (wordOf c b))),
   fun _ _ => .unused 0xAF]

/-- Row Bx of the opcode map (R55): columns x0 to xF; `b` is operand byte b1 and `c` is b2 (R51). -/
def opcodeRowB : List (Byte → Byte → Instr) :=
  [fun b _ => .bcs b,
   fun b _ => .lda (.mem (.izy b)),
   fun _ _ => .unused 0xB2,
   fun _ _ => .unused 0xB3,
   fun b _ => .ldy (.mem (.zpx b)),
   fun b _ => .lda (.mem (.zpx b)),
   fun b _ => .ldx (.mem (.zpy b)),
   fun _ _ => .unused 0xB7,
   fun _ _ => .clv,
   fun b c => .lda (.mem (.aby (wordOf c b))),
   fun _ _ => .tsx,
   fun _ _ => .unused 0xBB,
   fun b c => .ldy (.mem (.abx (wordOf c b))),
   fun b c => .lda (.mem (.abx (wordOf c b))),
   fun b c => .ldx (.mem (.aby (wordOf c b))),
   fun _ _ => .unused 0xBF]

/-- Row Cx of the opcode map (R55): columns x0 to xF; `b` is operand byte b1 and `c` is b2 (R51). -/
def opcodeRowC : List (Byte → Byte → Instr) :=
  [fun b _ => .cpy (.imm b),
   fun b _ => .cmp (.mem (.izx b)),
   fun _ _ => .unused 0xC2,
   fun _ _ => .unused 0xC3,
   fun b _ => .cpy (.mem (.zp b)),
   fun b _ => .cmp (.mem (.zp b)),
   fun b _ => .dec (.zp b),
   fun _ _ => .unused 0xC7,
   fun _ _ => .iny,
   fun b _ => .cmp (.imm b),
   fun _ _ => .dex,
   fun _ _ => .unused 0xCB,
   fun b c => .cpy (.mem (.abs (wordOf c b))),
   fun b c => .cmp (.mem (.abs (wordOf c b))),
   fun b c => .dec (.abs (wordOf c b)),
   fun _ _ => .unused 0xCF]

/-- Row Dx of the opcode map (R55): columns x0 to xF; `b` is operand byte b1 and `c` is b2 (R51). -/
def opcodeRowD : List (Byte → Byte → Instr) :=
  [fun b _ => .bne b,
   fun b _ => .cmp (.mem (.izy b)),
   fun _ _ => .unused 0xD2,
   fun _ _ => .unused 0xD3,
   fun _ _ => .unused 0xD4,
   fun b _ => .cmp (.mem (.zpx b)),
   fun b _ => .dec (.zpx b),
   fun _ _ => .unused 0xD7,
   fun _ _ => .cld,
   fun b c => .cmp (.mem (.aby (wordOf c b))),
   fun _ _ => .unused 0xDA,
   fun _ _ => .unused 0xDB,
   fun _ _ => .unused 0xDC,
   fun b c => .cmp (.mem (.abx (wordOf c b))),
   fun b c => .dec (.abx (wordOf c b)),
   fun _ _ => .unused 0xDF]

/-- Row Ex of the opcode map (R55): columns x0 to xF; `b` is operand byte b1 and `c` is b2 (R51). -/
def opcodeRowE : List (Byte → Byte → Instr) :=
  [fun b _ => .cpx (.imm b),
   fun b _ => .sbc (.mem (.izx b)),
   fun _ _ => .unused 0xE2,
   fun _ _ => .unused 0xE3,
   fun b _ => .cpx (.mem (.zp b)),
   fun b _ => .sbc (.mem (.zp b)),
   fun b _ => .inc (.zp b),
   fun _ _ => .unused 0xE7,
   fun _ _ => .inx,
   fun b _ => .sbc (.imm b),
   fun _ _ => .nop,
   fun _ _ => .unused 0xEB,
   fun b c => .cpx (.mem (.abs (wordOf c b))),
   fun b c => .sbc (.mem (.abs (wordOf c b))),
   fun b c => .inc (.abs (wordOf c b)),
   fun _ _ => .unused 0xEF]

/-- Row Fx of the opcode map (R55): columns x0 to xF; `b` is operand byte b1 and `c` is b2 (R51). -/
def opcodeRowF : List (Byte → Byte → Instr) :=
  [fun b _ => .beq b,
   fun b _ => .sbc (.mem (.izy b)),
   fun _ _ => .unused 0xF2,
   fun _ _ => .unused 0xF3,
   fun _ _ => .unused 0xF4,
   fun b _ => .sbc (.mem (.zpx b)),
   fun b _ => .inc (.zpx b),
   fun _ _ => .unused 0xF7,
   fun _ _ => .sed,
   fun b c => .sbc (.mem (.aby (wordOf c b))),
   fun _ _ => .unused 0xFA,
   fun _ _ => .unused 0xFB,
   fun _ _ => .unused 0xFC,
   fun b c => .sbc (.mem (.abx (wordOf c b))),
   fun b c => .inc (.abx (wordOf c b)),
   fun _ _ => .unused 0xFF]

/-- The 256-entry opcode map, in opcode order (R53, R55). -/
def opcodeMap : List (Byte → Byte → Instr) :=
  opcodeRow0 ++ opcodeRow1 ++ opcodeRow2 ++ opcodeRow3 ++ opcodeRow4 ++ opcodeRow5 ++ opcodeRow6 ++ opcodeRow7 ++
  opcodeRow8 ++ opcodeRow9 ++ opcodeRowA ++ opcodeRowB ++ opcodeRowC ++ opcodeRowD ++ opcodeRowE ++ opcodeRowF

/-- The instruction of opcode byte `op` with operand bytes `b1`, `b2` (those its format lacks are not looked at). -/
def instrOf (op b1 b2 : Byte) : Instr :=
  opcodeMap.getD op.toNat (fun _ _ => .unused op) b1 b2

/-- Operand bytes a mode consumes, plus the opcode byte: the instruction length (R52). -/
def Mode.length : Mode → Nat
  | .imp => 1
  | .acc => 1
  | .imm => 2
  | .zp => 2
  | .zpx => 2
  | .zpy => 2
  | .abs => 3
  | .abx => 3
  | .aby => 3
  | .ind => 3
  | .izx => 2
  | .izy => 2
  | .rel => 2

/-- The length of an instruction in bytes, the opcode byte included (R50, R52). -/
def Instr.length (i : Instr) : Nat := i.mode.length

/-- The length the opcode byte alone determines (R50). -/
def opcodeLength (op : Byte) : Nat := (instrOf op 0 0).length

/-- Base cycle counts of row 0x (R56; unused opcodes R58). -/
def cycleRow0 : List Nat := [7, 6, Config.unusedCycles, Config.unusedCycles, Config.unusedCycles, 3, 5, Config.unusedCycles, 3, 2, 2, Config.unusedCycles, Config.unusedCycles, 4, 6, Config.unusedCycles]
/-- Base cycle counts of row 1x (R56; unused opcodes R58). -/
def cycleRow1 : List Nat := [2, 5, Config.unusedCycles, Config.unusedCycles, Config.unusedCycles, 4, 6, Config.unusedCycles, 2, 4, Config.unusedCycles, Config.unusedCycles, Config.unusedCycles, 4, 7, Config.unusedCycles]
/-- Base cycle counts of row 2x (R56; unused opcodes R58). -/
def cycleRow2 : List Nat := [6, 6, Config.unusedCycles, Config.unusedCycles, 3, 3, 5, Config.unusedCycles, 4, 2, 2, Config.unusedCycles, 4, 4, 6, Config.unusedCycles]
/-- Base cycle counts of row 3x (R56; unused opcodes R58). -/
def cycleRow3 : List Nat := [2, 5, Config.unusedCycles, Config.unusedCycles, Config.unusedCycles, 4, 6, Config.unusedCycles, 2, 4, Config.unusedCycles, Config.unusedCycles, Config.unusedCycles, 4, 7, Config.unusedCycles]
/-- Base cycle counts of row 4x (R56; unused opcodes R58). -/
def cycleRow4 : List Nat := [6, 6, Config.unusedCycles, Config.unusedCycles, Config.unusedCycles, 3, 5, Config.unusedCycles, 3, 2, 2, Config.unusedCycles, 3, 4, 6, Config.unusedCycles]
/-- Base cycle counts of row 5x (R56; unused opcodes R58). -/
def cycleRow5 : List Nat := [2, 5, Config.unusedCycles, Config.unusedCycles, Config.unusedCycles, 4, 6, Config.unusedCycles, 2, 4, Config.unusedCycles, Config.unusedCycles, Config.unusedCycles, 4, 7, Config.unusedCycles]
/-- Base cycle counts of row 6x (R56; unused opcodes R58). -/
def cycleRow6 : List Nat := [6, 6, Config.unusedCycles, Config.unusedCycles, Config.unusedCycles, 3, 5, Config.unusedCycles, 4, 2, 2, Config.unusedCycles, 5, 4, 6, Config.unusedCycles]
/-- Base cycle counts of row 7x (R56; unused opcodes R58). -/
def cycleRow7 : List Nat := [2, 5, Config.unusedCycles, Config.unusedCycles, Config.unusedCycles, 4, 6, Config.unusedCycles, 2, 4, Config.unusedCycles, Config.unusedCycles, Config.unusedCycles, 4, 7, Config.unusedCycles]
/-- Base cycle counts of row 8x (R56; unused opcodes R58). -/
def cycleRow8 : List Nat := [Config.unusedCycles, 6, Config.unusedCycles, Config.unusedCycles, 3, 3, 3, Config.unusedCycles, 2, Config.unusedCycles, 2, Config.unusedCycles, 4, 4, 4, Config.unusedCycles]
/-- Base cycle counts of row 9x (R56; unused opcodes R58). -/
def cycleRow9 : List Nat := [2, 6, Config.unusedCycles, Config.unusedCycles, 4, 4, 4, Config.unusedCycles, 2, 5, 2, Config.unusedCycles, Config.unusedCycles, 5, Config.unusedCycles, Config.unusedCycles]
/-- Base cycle counts of row Ax (R56; unused opcodes R58). -/
def cycleRowA : List Nat := [2, 6, 2, Config.unusedCycles, 3, 3, 3, Config.unusedCycles, 2, 2, 2, Config.unusedCycles, 4, 4, 4, Config.unusedCycles]
/-- Base cycle counts of row Bx (R56; unused opcodes R58). -/
def cycleRowB : List Nat := [2, 5, Config.unusedCycles, Config.unusedCycles, 4, 4, 4, Config.unusedCycles, 2, 4, 2, Config.unusedCycles, 4, 4, 4, Config.unusedCycles]
/-- Base cycle counts of row Cx (R56; unused opcodes R58). -/
def cycleRowC : List Nat := [2, 6, Config.unusedCycles, Config.unusedCycles, 3, 3, 5, Config.unusedCycles, 2, 2, 2, Config.unusedCycles, 4, 4, 6, Config.unusedCycles]
/-- Base cycle counts of row Dx (R56; unused opcodes R58). -/
def cycleRowD : List Nat := [2, 5, Config.unusedCycles, Config.unusedCycles, Config.unusedCycles, 4, 6, Config.unusedCycles, 2, 4, Config.unusedCycles, Config.unusedCycles, Config.unusedCycles, 4, 7, Config.unusedCycles]
/-- Base cycle counts of row Ex (R56; unused opcodes R58). -/
def cycleRowE : List Nat := [2, 6, Config.unusedCycles, Config.unusedCycles, 3, 3, 5, Config.unusedCycles, 2, 2, 2, Config.unusedCycles, 4, 4, 6, Config.unusedCycles]
/-- Base cycle counts of row Fx (R56; unused opcodes R58). -/
def cycleRowF : List Nat := [2, 5, Config.unusedCycles, Config.unusedCycles, Config.unusedCycles, 4, 6, Config.unusedCycles, 2, 4, Config.unusedCycles, Config.unusedCycles, Config.unusedCycles, 4, 7, Config.unusedCycles]

/-- The base cycle counts in opcode order (R53, R56, R241). -/
def cycleTable : List Nat :=
  cycleRow0 ++ cycleRow1 ++ cycleRow2 ++ cycleRow3 ++ cycleRow4 ++ cycleRow5 ++ cycleRow6 ++ cycleRow7 ++
  cycleRow8 ++ cycleRow9 ++ cycleRowA ++ cycleRowB ++ cycleRowC ++ cycleRowD ++ cycleRowE ++ cycleRowF

/-- The base cycle count of opcode byte `op` (R241). -/
def baseCycles (op : Byte) : Nat := cycleTable.getD op.toNat Config.unusedCycles

/-- The instruction reads its operand and so takes the page-cross penalty in its indexed forms (R242). -/
def Instr.readsOperand : Instr → Bool
  | .lda _ => true
  | .ldx _ => true
  | .ldy _ => true
  | .sta _ => false
  | .stx _ => false
  | .sty _ => false
  | .tax => false
  | .tay => false
  | .txa => false
  | .tya => false
  | .tsx => false
  | .txs => false
  | .adc _ => true
  | .sbc _ => true
  | .and _ => true
  | .ora _ => true
  | .eor _ => true
  | .bit _ => true
  | .asl _ => false
  | .lsr _ => false
  | .rol _ => false
  | .ror _ => false
  | .inc _ => false
  | .dec _ => false
  | .inx => false
  | .iny => false
  | .dex => false
  | .dey => false
  | .cmp _ => true
  | .cpx _ => true
  | .cpy _ => true
  | .bcc _ => false
  | .bcs _ => false
  | .beq _ => false
  | .bne _ => false
  | .bmi _ => false
  | .bpl _ => false
  | .bvc _ => false
  | .bvs _ => false
  | .jmp _ => false
  | .jsr _ => false
  | .rts => false
  | .pha => false
  | .php => false
  | .pla => false
  | .plp => false
  | .clc => false
  | .sec => false
  | .cli => false
  | .sei => false
  | .cld => false
  | .sed => false
  | .clv => false
  | .brk => false
  | .rti => false
  | .nop => false
  | .unused _ => false

/-- The mark `+p` of R56: a page cross costs a cycle. -/
def Instr.pagePenalty (i : Instr) : Bool :=
  i.readsOperand && (i.mode == .abx || i.mode == .aby || i.mode == .izy)

/-- The opcode descriptor of R53. -/
structure Descriptor where
  code : Byte
  mnemonic : String
  mode : Mode
  length : Nat
  cycles : Nat
  pagePenalty : Bool
deriving DecidableEq, Repr

/-- `decode(byte)` of R53: total and pure, one descriptor for each of the 256 byte values. -/
def descriptor (op : Byte) : Descriptor where
  code := op
  mnemonic := (instrOf op 0 0).mnemonic
  mode := (instrOf op 0 0).mode
  length := opcodeLength op
  cycles := baseCycles op
  pagePenalty := (instrOf op 0 0).pagePenalty

/-- Why a list of bytes is no instruction. The machine never meets one of these: every opcode byte decodes (R53) and memory
always supplies the operand bytes (20_memory.md R31). -/
inductive DecodeError where
  /-- the list is empty -/
  | noOpcode
  /-- the list ends before the operand bytes the opcode asks for -/
  | missingOperand (op : Byte)
deriving DecidableEq, Repr

/-- Read one instruction from a list of bytes, opcode byte first, and give the bytes after it (R50, R51). -/
def decode : List Byte → Except DecodeError (Instr × List Byte)
  | [] => .error .noOpcode
  | op :: rest =>
    match opcodeLength op, rest with
    | 1, _ => .ok (instrOf op 0 0, rest)
    | 2, b1 :: rest => .ok (instrOf op b1 0, rest)
    | 3, b1 :: b2 :: rest => .ok (instrOf op b1 b2, rest)
    | _, _ => .error (.missingOperand op)

/-- The opcode byte of mode `m` in a row of R56, none where the mnemonic lacks the mode. -/
def pickOpcode (m : Mode) : List (Mode × Byte) → Option Byte
  | [] => none
  | (k, op) :: rest => if k = m then some op else pickOpcode m rest

/-- The opcode byte of an instruction, row by row of R56. -/
def Instr.opcode : Instr → Option Byte
  | .lda o => pickOpcode o.mode [(.imm, 0xA9), (.zp, 0xA5), (.zpx, 0xB5), (.abs, 0xAD), (.abx, 0xBD), (.aby, 0xB9), (.izx, 0xA1), (.izy, 0xB1)]
  | .ldx o => pickOpcode o.mode [(.imm, 0xA2), (.zp, 0xA6), (.zpy, 0xB6), (.abs, 0xAE), (.aby, 0xBE)]
  | .ldy o => pickOpcode o.mode [(.imm, 0xA0), (.zp, 0xA4), (.zpx, 0xB4), (.abs, 0xAC), (.abx, 0xBC)]
  | .sta o => pickOpcode o.mode [(.zp, 0x85), (.zpx, 0x95), (.abs, 0x8D), (.abx, 0x9D), (.aby, 0x99), (.izx, 0x81), (.izy, 0x91)]
  | .stx o => pickOpcode o.mode [(.zp, 0x86), (.zpy, 0x96), (.abs, 0x8E)]
  | .sty o => pickOpcode o.mode [(.zp, 0x84), (.zpx, 0x94), (.abs, 0x8C)]
  | .tax => some 0xAA
  | .tay => some 0xA8
  | .txa => some 0x8A
  | .tya => some 0x98
  | .tsx => some 0xBA
  | .txs => some 0x9A
  | .adc o => pickOpcode o.mode [(.imm, 0x69), (.zp, 0x65), (.zpx, 0x75), (.abs, 0x6D), (.abx, 0x7D), (.aby, 0x79), (.izx, 0x61), (.izy, 0x71)]
  | .sbc o => pickOpcode o.mode [(.imm, 0xE9), (.zp, 0xE5), (.zpx, 0xF5), (.abs, 0xED), (.abx, 0xFD), (.aby, 0xF9), (.izx, 0xE1), (.izy, 0xF1)]
  | .and o => pickOpcode o.mode [(.imm, 0x29), (.zp, 0x25), (.zpx, 0x35), (.abs, 0x2D), (.abx, 0x3D), (.aby, 0x39), (.izx, 0x21), (.izy, 0x31)]
  | .ora o => pickOpcode o.mode [(.imm, 0x09), (.zp, 0x05), (.zpx, 0x15), (.abs, 0x0D), (.abx, 0x1D), (.aby, 0x19), (.izx, 0x01), (.izy, 0x11)]
  | .eor o => pickOpcode o.mode [(.imm, 0x49), (.zp, 0x45), (.zpx, 0x55), (.abs, 0x4D), (.abx, 0x5D), (.aby, 0x59), (.izx, 0x41), (.izy, 0x51)]
  | .bit o => pickOpcode o.mode [(.zp, 0x24), (.abs, 0x2C)]
  | .asl o => pickOpcode o.mode [(.acc, 0x0A), (.zp, 0x06), (.zpx, 0x16), (.abs, 0x0E), (.abx, 0x1E)]
  | .lsr o => pickOpcode o.mode [(.acc, 0x4A), (.zp, 0x46), (.zpx, 0x56), (.abs, 0x4E), (.abx, 0x5E)]
  | .rol o => pickOpcode o.mode [(.acc, 0x2A), (.zp, 0x26), (.zpx, 0x36), (.abs, 0x2E), (.abx, 0x3E)]
  | .ror o => pickOpcode o.mode [(.acc, 0x6A), (.zp, 0x66), (.zpx, 0x76), (.abs, 0x6E), (.abx, 0x7E)]
  | .inc o => pickOpcode o.mode [(.zp, 0xE6), (.zpx, 0xF6), (.abs, 0xEE), (.abx, 0xFE)]
  | .dec o => pickOpcode o.mode [(.zp, 0xC6), (.zpx, 0xD6), (.abs, 0xCE), (.abx, 0xDE)]
  | .inx => some 0xE8
  | .iny => some 0xC8
  | .dex => some 0xCA
  | .dey => some 0x88
  | .cmp o => pickOpcode o.mode [(.imm, 0xC9), (.zp, 0xC5), (.zpx, 0xD5), (.abs, 0xCD), (.abx, 0xDD), (.aby, 0xD9), (.izx, 0xC1), (.izy, 0xD1)]
  | .cpx o => pickOpcode o.mode [(.imm, 0xE0), (.zp, 0xE4), (.abs, 0xEC)]
  | .cpy o => pickOpcode o.mode [(.imm, 0xC0), (.zp, 0xC4), (.abs, 0xCC)]
  | .bcc _ => some 0x90
  | .bcs _ => some 0xB0
  | .beq _ => some 0xF0
  | .bne _ => some 0xD0
  | .bmi _ => some 0x30
  | .bpl _ => some 0x10
  | .bvc _ => some 0x50
  | .bvs _ => some 0x70
  | .jmp o => pickOpcode o.mode [(.abs, 0x4C), (.ind, 0x6C)]
  | .jsr _ => some 0x20
  | .rts => some 0x60
  | .pha => some 0x48
  | .php => some 0x08
  | .pla => some 0x68
  | .plp => some 0x28
  | .clc => some 0x18
  | .sec => some 0x38
  | .cli => some 0x58
  | .sei => some 0x78
  | .cld => some 0xD8
  | .sed => some 0xF8
  | .clv => some 0xB8
  | .brk => some 0x00
  | .rti => some 0x40
  | .nop => some 0xEA
  | .unused op => if unusedOpcodes.contains op then some op else none

/-- A 16-bit operand as it stands in memory: low byte, then high byte (R51, R54). -/
def wordBytes (w : Word) : List Byte := [lowByte w, highByte w]

/-- The operand bytes of a memory mode (R52). -/
def MemMode.bytes : MemMode → List Byte
  | .zp b => [b]
  | .zpx b => [b]
  | .zpy b => [b]
  | .abs w => wordBytes w
  | .abx w => wordBytes w
  | .aby w => wordBytes w
  | .izx b => [b]
  | .izy b => [b]

/-- The operand bytes of a value operand (R52). -/
def Source.bytes : Source → List Byte
  | .imm v => [v]
  | .mem m => m.bytes

/-- The operand bytes of a location operand (R52). -/
def Place.bytes : Place → List Byte
  | .acc => []
  | .mem m => m.bytes

/-- The operand bytes of a jump target (R52). -/
def Target.bytes : Target → List Byte
  | .abs w => wordBytes w
  | .ind w => wordBytes w

/-- The operand bytes of an instruction (R51, R52). -/
def Instr.operandBytes : Instr → List Byte
  | .lda o => o.bytes
  | .ldx o => o.bytes
  | .ldy o => o.bytes
  | .sta o => o.bytes
  | .stx o => o.bytes
  | .sty o => o.bytes
  | .tax => []
  | .tay => []
  | .txa => []
  | .tya => []
  | .tsx => []
  | .txs => []
  | .adc o => o.bytes
  | .sbc o => o.bytes
  | .and o => o.bytes
  | .ora o => o.bytes
  | .eor o => o.bytes
  | .bit o => o.bytes
  | .asl o => o.bytes
  | .lsr o => o.bytes
  | .rol o => o.bytes
  | .ror o => o.bytes
  | .inc o => o.bytes
  | .dec o => o.bytes
  | .inx => []
  | .iny => []
  | .dex => []
  | .dey => []
  | .cmp o => o.bytes
  | .cpx o => o.bytes
  | .cpy o => o.bytes
  | .bcc d => [d]
  | .bcs d => [d]
  | .beq d => [d]
  | .bne d => [d]
  | .bmi d => [d]
  | .bpl d => [d]
  | .bvc d => [d]
  | .bvs d => [d]
  | .jmp o => o.bytes
  | .jsr w => wordBytes w
  | .rts => []
  | .pha => []
  | .php => []
  | .pla => []
  | .plp => []
  | .clc => []
  | .sec => []
  | .cli => []
  | .sei => []
  | .cld => []
  | .sed => []
  | .clv => []
  | .brk => []
  | .rti => []
  | .nop => []
  | .unused _ => []

/-- The bytes of an instruction, at increasing addresses; none where it has no encoding. -/
def encode (i : Instr) : Option (List Byte) :=
  i.opcode.map (· :: i.operandBytes)

/-- Byte `k` of the bits `w`, numbered as spec/opcode_table.json numbers them, the bits from `nbits` up being 0. -/
def tableByte (nbits w k : Nat) : Byte := BitVec.ofNat 8 ((w % 2 ^ nbits) >>> (8 * k))

/-- The instruction the decoder reads from the bits `w`: byte k of the instruction is bits 8k+7..8k, and the bits above
`nbits` are 0 up to the longest instruction, three bytes (R50). -/
def decodeTableWord (nbits w : Nat) : Option Instr :=
  match decode [tableByte nbits w 0, tableByte nbits w 1, tableByte nbits w 2] with
  | .ok (i, _) => some i
  | .error _ => none

end Sys2Proof
end

