-- ==== Sys2Proof/Machine/Fetch.lean ====
section
/-! DEFINITION. Fetching and decoding the instruction at PC (00_scope.md R9), and laying an instruction's bytes there. -/

namespace Sys2Proof.Machine

/-- The fetch of R9: the opcode byte, then the operand bytes its length asks for, each read once and in order (20_memory.md
R37), addresses wrapping mod 65536 (10_state.md R19); PC advances by the length, and the cycle count gains the base count
of the opcode byte (70_reset_and_hazards.md R241). -/
def fetch (s : State) : Instr × State :=
  let pc0 := s.pc
  let op := memRead pc0 s
  let len := opcodeLength op.1
  let b1 := if 2 ≤ len then memRead (pc0 + 1#16) op.2 else (0, op.2)
  let b2 := if len = 3 then memRead (pc0 + 2#16) b1.2 else (0, b1.2)
  (instrOf op.1 b1.1 b2.1, (b2.2.setPc (pc0 + BitVec.ofNat 16 len)).addCycles (baseCycles op.1))

/-- The map without the regions that hold `addr`. -/
def withoutIoAt (addr : Word) (rs : List IoRegion) : List IoRegion := rs.filter fun r => !regionCovers r addr

/-- Store the three bytes `b0 b1 b2` where the next step fetches, and let nothing keep it from fetching them: no request is
active and none of the three addresses is answered by an external agent (log entry 14). -/
def State.placeAtPc (s : State) (b0 b1 b2 : Byte) : State :=
  { s with
    mem := ((s.mem.write s.pc.toNat b0).write (s.pc + 1#16).toNat b1).write (s.pc + 2#16).toNat b2
    ioRegions := withoutIoAt s.pc (withoutIoAt (s.pc + 1#16) (withoutIoAt (s.pc + 2#16) s.ioRegions))
    resetReq := false
    nmiPending := false
    irqLine := false }

end Sys2Proof.Machine
end

