-- ==== Sys2Proof/Machine/Step.lean ====
section
/-! DEFINITION. One step (00_scope.md R8, 60_exceptions.md R203). -/

namespace Sys2Proof.Machine

/-- One step: the entry the step's start recognises, or else the instruction at PC (R203, R9). -/
def step (s : State) : Host.Outcome State Fault Refusal :=
  match recognise s with
  | some k => .next (entryStep k s)
  | none =>
    let f := fetch s.beginStep
    exec f.1 f.2

/-- `s` with the instruction whose bits are `w`, numbered as spec/opcode_table.json numbers them, where the next step fetches
(log entry 14). -/
def State.withFetchWord (s : State) (nbits w : Nat) : State :=
  s.placeAtPc (tableByte nbits w 0) (tableByte nbits w 1) (tableByte nbits w 2)

end Sys2Proof.Machine
end

