-- ==== Sys2Proof/Machine/Environment.lean ====
section
/-! DEFINITION. What the outside world does between steps (20_memory.md R44, 60_exceptions.md R202, R225), and the states the
host may construct (10_state.md R28). -/

namespace Sys2Proof.Machine

/-- One change the environment makes between two steps, never inside one, so that no event lies between the read and the write
of a read-modify-write (20_memory.md R36, R44, R46). -/
inductive EnvEvent where
  /-- an NMI request: it sets the latch, and setting it again changes nothing (10_state.md R24) -/
  | requestNmi
  /-- `irq_line <- b` (R25) -/
  | setIrqLine (b : Bool)
  /-- `reset_req <- b` (R23) -/
  | setResetReq (b : Bool)
  /-- the host or a DMA agent writes a byte of memory (20_memory.md R44) -/
  | writeMemory (addr : Word) (v : Byte)
deriving DecidableEq, Repr

/-- The state after the event. -/
def State.applyEvent (s : State) (e : EnvEvent) : State :=
  match e with
  | .requestNmi => { s with nmiPending := true }
  | .setIrqLine b => { s with irqLine := b }
  | .setResetReq b => { s with resetReq := b }
  | .writeMemory addr v => { s with mem := s.mem.write addr.toNat v }

/-- The state after several events, oldest first. -/
def State.applyEvents (s : State) (es : List EnvEvent) : State := es.foldl State.applyEvent s

/-- A state the host constructs: any register values, bits 5 and 4 of `P` forced to 1, any memory and map
(10_state.md R28, 70_reset_and_hazards.md R232). The spec names no request there: that none is
active, and that the record of a last step is empty, is the model's choice (DESIGN CHOICE, log entry 19). An event may make a
request before the first step. -/
def State.construct (a x y sp p : Byte) (pc : Word) (mem : Memory) (ioRegions : List IoRegion) : State where
  a := a
  x := x
  y := y
  sp := sp
  p := p ||| 0x30
  pc := pc
  nmiPending := false
  irqLine := false
  resetReq := false
  mem := mem
  ioRegions := ioRegions
  ioReads := 0
  accesses := []
  cycles := 0

/-- One step after the environment's events (R44: "between any two steps"). -/
def stepAfter (es : List EnvEvent) (s : State) : Result := step (s.applyEvents es)

end Sys2Proof.Machine
end

