-- ==== Sys2Proof/Safety.lean ====
section
/-! DEFINITION. The terms the statements use: what a frame is, the invariant of the machine, the states a run reaches. -/

namespace Sys2Proof.Machine

/-- The 8-bit registers beside `P` (10_state.md R10, R13). -/
inductive Reg where
  | A | X | Y | SP
deriving DecidableEq, Repr

/-- The value of a register. -/
def State.reg (s : State) : Reg → Byte
  | .A => s.a
  | .X => s.x
  | .Y => s.y
  | .SP => s.sp

/-- The interrupt inputs and the platform's I/O map are as before (10_state.md R23 to R25, 00_scope.md R4). -/
structure KeepsInputs (s t : State) : Prop where
  nmi_latch : t.nmiPending = s.nmiPending
  irq_line : t.irqLine = s.irqLine
  reset_req : t.resetReq = s.resetReq
  io_map : t.ioRegions = s.ioRegions

/-- From `s` to `t` nothing changes but the registers in `regs`, the flags in `flags` and the bytes at the addresses in
`stored`. PC and the model's record of the step's outputs (accesses, cycles, the counter of I/O reads) are not part of a
frame. -/
structure Frame (regs : List Reg) (flags : List Flag) (stored : List Word) (s t : State) : Prop where
  registers : ∀ r, r ∉ regs → t.reg r = s.reg r
  other_flags : ∀ f, f ∉ flags → t.flag f = s.flag f
  bit_four : t.p.getLsbD 4 = s.p.getLsbD 4
  bit_five : t.p.getLsbD 5 = s.p.getLsbD 5
  memory : ∀ addr : Word, addr ∉ stored → t.mem.read addr.toNat = s.mem.read addr.toNat
  inputs : KeepsInputs s t

/-- `Z` and `N` of `t` are those of the byte `v` (10_state.md R20, `SetZN`). -/
structure ShowsZN (v : Byte) (t : State) : Prop where
  zero : t.flag .Z = decide (v = 0)
  negative : t.flag .N = v.getLsbD 7

/-- The addresses all lie outside `IO_REGIONS`: a read of one answers the stored byte (20_memory.md R31). -/
def PlainAt (s : State) (addrs : List Word) : Prop := ∀ addr ∈ addrs, s.isIo addr = false

/-- The invariant: bits 5 and 4 of `P` are 1 (10_state.md R21), and memory is in its canonical form. -/
structure State.Inv (s : State) : Prop where
  fixed_bits : s.p &&& 0x30 = 0x30
  canonical : s.mem.wf = true

/-- The states a run reaches: from power-on over any canonical memory (R26), or from a state the host constructed (R28), by
steps and by the environment's events (20_memory.md R44). -/
inductive Reachable : State → Prop where
  | powerOn (s : State) : s.mem.wf = true → Reachable (coldReset s)
  | constructed (a x y sp p : Byte) (pc : Word) (mem : Memory) (io : List IoRegion) :
      mem.wf = true → Reachable (State.construct a x y sp p pc mem io)
  | step {s t : State} : Reachable s → step s = .next t → Reachable t
  | event {s : State} (e : EnvEvent) : Reachable s → Reachable (s.applyEvent e)

/-- A step from `s` is safe: it answers a next state. -/
def SafeStep (s : State) : Prop := ∃ t, step s = .next t

/-! ### What an instruction reads and where -/

/-- The pointer bytes a memory mode reads, low byte first (20_memory.md R37, item 3). -/
def pointerReads (m : MemMode) (s : State) : List BusAccess :=
  match m with
  | .izx b => [.read (zext16 (b + s.x)), .read (zext16 (b + s.x + 1#8))]
  | .izy b => [.read (zext16 b), .read (zext16 (b + 1#8))]
  | _ => []

/-- The byte a memory operand has: the bus's answer at the effective address, once the pointer bytes are read. -/
def memOperand (m : MemMode) (s : State) : Byte := (resolve m s).2.busAnswer (effAddr m s)

/-- The byte a value operand has (40_addressing_modes.md R70). -/
def operand (src : Source) (s : State) : Byte :=
  match src with
  | .imm v => v
  | .mem m => memOperand m s

/-- The data accesses of an instruction that reads a value operand (20_memory.md R37). -/
def operandReads (src : Source) (s : State) : List BusAccess :=
  match src with
  | .imm _ => []
  | .mem m => pointerReads m s ++ [.read (effAddr m s)]

/-- The page-cross penalty of an instruction that reads a value operand (70_reset_and_hazards.md R242). -/
def operandPenalty (src : Source) (s : State) : Nat :=
  match src with
  | .imm _ => 0
  | .mem m => penalty (resolve m s).1.cross

/-- The word the bus answers with for the two bytes at `w` and `w + 1`, low byte read first (00_scope.md R7, `Read16`). -/
def busWord (w : Word) (s : State) : Word := wordOf ((s.noteRead w).busAnswer (w + 1#16)) (s.busAnswer w)

/-- The three bytes the bus would answer with at PC, PC + 1 and PC + 2, in that order (00_scope.md R9). -/
def fetchedBytes (s : State) : List Byte :=
  [s.busAnswer s.pc, (s.noteRead s.pc).busAnswer (s.pc + 1#16),
   ((s.noteRead s.pc).noteRead (s.pc + 1#16)).busAnswer (s.pc + 2#16)]

/-- The state an instruction finds: a new step has begun, its bytes have been read one by one, PC has advanced past them and
the cycle count is the base count of its opcode byte (00_scope.md R9, 70_reset_and_hazards.md R241). -/
def State.advanced (s : State) (i : Instr) : State :=
  let reads := (List.range i.length).map fun k => s.pc + BitVec.ofNat 16 k
  ((reads.foldl State.noteRead s.beginStep).setPc (s.pc + BitVec.ofNat 16 i.length)).addCycles
    (baseCycles (s.busAnswer s.pc))

/-- No entry is recognised at the start of the step: no reset, no NMI, and no IRQ that `P.I` lets through (60_exceptions.md
R203). -/
structure NoEntry (s : State) : Prop where
  no_reset : s.resetReq = false
  no_nmi : s.nmiPending = false
  no_irq : s.irqLine = false ∨ s.flag .I = true

end Sys2Proof.Machine

/-! ### Which instructions may write what, by mnemonic as the spec's tables list them -/

namespace Sys2Proof
open Machine

/-- The mnemonic of `i` stands in the list. -/
def Instr.isOneOf (i : Instr) (names : List String) : Bool := names.contains i.mnemonic

/-- The instructions that write a register (10_state.md R11, R14). -/
def Instr.writesReg (i : Instr) : Reg → Bool
  | .A => i.isOneOf ["LDA", "PLA", "TXA", "TYA", "ADC", "SBC", "AND", "ORA", "EOR"] ||
      (i.isOneOf ["ASL", "LSR", "ROL", "ROR"] && i.mode == .acc)
  | .X => i.isOneOf ["LDX", "TAX", "TSX", "INX", "DEX"]
  | .Y => i.isOneOf ["LDY", "TAY", "INY", "DEY"]
  | .SP => i.isOneOf ["TXS", "PHA", "PHP", "PLA", "PLP", "JSR", "RTS", "BRK", "RTI"]

/-- The instructions that write Z and N (10_state.md R22). -/
def zeroNegativeWriters : List String :=
  ["LDA", "LDX", "LDY", "TAX", "TAY", "TXA", "TYA", "TSX", "PLA", "ADC", "SBC", "AND", "ORA", "EOR", "BIT", "ASL", "LSR",
   "ROL", "ROR", "INC", "DEC", "INX", "INY", "DEX", "DEY", "CMP", "CPX", "CPY", "PLP", "RTI"]

/-- The instructions that write a flag (10_state.md R22). -/
def Instr.writesFlag (i : Instr) : Flag → Bool
  | .C => i.isOneOf ["ADC", "SBC", "ASL", "LSR", "ROL", "ROR", "CMP", "CPX", "CPY", "CLC", "SEC", "PLP", "RTI"]
  | .Z => i.isOneOf zeroNegativeWriters
  | .I => i.isOneOf ["SEI", "CLI", "PLP", "RTI", "BRK"]
  | .D => i.isOneOf ["SED", "CLD", "PLP", "RTI"]
  | .V => i.isOneOf ["ADC", "SBC", "BIT", "CLV", "PLP", "RTI"]
  | .N => i.isOneOf zeroNegativeWriters

/-- The instructions that write memory: the stores, the read-modify-writes of memory, and those that push (20_memory.md R37,
10_state.md R14). -/
def Instr.writesMemory (i : Instr) : Bool :=
  i.isOneOf ["STA", "STX", "STY", "INC", "DEC", "PHA", "PHP", "JSR", "BRK"] ||
    (i.isOneOf ["ASL", "LSR", "ROL", "ROR"] && i.mode != .acc)

/-- JMP, JSR, RTS, BRK and RTI: the control transfers beside the branches (10_state.md R18). -/
def Instr.setsPc (i : Instr) : Bool := i.isOneOf ["JMP", "JSR", "RTS", "BRK", "RTI"]

/-- The test of a branch: the flag and the value it must have (48_control_transfer.md R161 to R168). -/
def Instr.branchTest : Instr → Option (Flag × Bool)
  | .bcc _ => some (.C, false)
  | .bcs _ => some (.C, true)
  | .beq _ => some (.Z, true)
  | .bne _ => some (.Z, false)
  | .bmi _ => some (.N, true)
  | .bpl _ => some (.N, false)
  | .bvc _ => some (.V, false)
  | .bvs _ => some (.V, true)
  | _ => none

end Sys2Proof
end

