-- ==== Sys2Proof/Certificates/Slice0/Obligations.lean ====
section
/-! DEFINITION. The statements about the machine, each formalising rules of spec/. -/

namespace Sys2Proof.Statements
open Sys2Proof Sys2Proof.Machine

/-- The rows `(mode, opcode byte, base cycles)` are all the encodings of the instruction: it has an encoding exactly where
one of them has its mode, and that row gives its opcode byte and that byte's base cycle count (30_encoding.md R56,
40_addressing_modes.md R84, 70_reset_and_hazards.md R241). -/
def RowsOf (i : Instr) (rows : List (Mode × Byte × Nat)) : Prop :=
  (i.WellFormed ↔ ∃ row ∈ rows, i.mode = row.1) ∧
  ∀ row ∈ rows, i.mode = row.1 → i.opcode = some row.2.1 ∧ baseCycles row.2.1 = row.2.2

/-- The eight rows of an accumulator instruction, in the order IMM, ZP, ZPX, ABS, ABX, ABY, IZX, IZY, with the cycle counts
2, 3, 4, 4, 4, 4, 6, 5 (R56). -/
def readRows (imm zp zpx abs abx aby izx izy : Byte) : List (Mode × Byte × Nat) :=
  [(.imm, imm, 2), (.zp, zp, 3), (.zpx, zpx, 4), (.abs, abs, 4), (.abx, abx, 4), (.aby, aby, 4), (.izx, izx, 6), (.izy, izy, 5)]

/-- The five rows of a shift or rotate, in the order ACC, ZP, ZPX, ABS, ABX, with the cycle counts 2, 5, 6, 6, 7 (R56). -/
def shiftRows (acc zp zpx abs abx : Byte) : List (Mode × Byte × Nat) :=
  [(.acc, acc, 2), (.zp, zp, 5), (.zpx, zpx, 6), (.abs, abs, 6), (.abx, abx, 7)]

/-- The instruction touches no memory and only the step's registers and flags named: it leaves PC, the accesses and the cycle
count as it found them. -/
structure InPlace (regs : List Reg) (flags : List Flag) (s t : State) : Prop where
  frame : Frame regs flags [] s t
  pc : t.pc = s.pc
  accesses : t.accesses = s.accesses
  cycles : t.cycles = s.cycles

/-- The instruction reads the value operand `src` and writes only the registers and flags named: it makes the operand's
accesses and no other, pays the page-cross penalty and no other, and leaves PC as it found it. -/
structure ReadsOperand (src : Source) (regs : List Reg) (flags : List Flag) (s t : State) : Prop where
  frame : Frame regs flags [] s t
  pc : t.pc = s.pc
  accesses : t.accesses = s.accesses ++ operandReads src s
  cycles : t.cycles = s.cycles + operandPenalty src s

/-- The instruction `i` loads register `r` from its operand, sets Z and N from the byte, and does nothing else. -/
def LoadsInto (i : Source → Instr) (r : Reg) : Prop :=
  ∀ src s, ∃ t, exec (i src) s = .next t ∧ t.reg r = operand src s ∧ ShowsZN (operand src s) t ∧
    ReadsOperand src [r] [.Z, .N] s t

/-- The instruction `i` stores register `r` at its effective address, without reading there, and does nothing else. -/
def StoresFrom (i : MemMode → Instr) (r : Reg) : Prop :=
  ∀ m s, ∃ t, exec (i m) s = .next t ∧ t.mem.read (effAddr m s).toNat = s.reg r ∧ Frame [] [] [effAddr m s] s t ∧
    t.pc = s.pc ∧ t.cycles = s.cycles ∧
    t.accesses = s.accesses ++ pointerReads m s ++ [.write (effAddr m s) (s.reg r)]

/-- The instruction `i` copies register `src` to register `dst`, sets Z and N from the byte, and does nothing else. -/
def Transfers (i : Instr) (src dst : Reg) : Prop :=
  ∀ s, ∃ t, exec i s = .next t ∧ t.reg dst = s.reg src ∧ ShowsZN (s.reg src) t ∧ InPlace [dst] [.Z, .N] s t

/-- The instruction `i` combines A with its operand by `f`, sets Z and N from the result, and does nothing else. -/
def CombinesWithA (i : Source → Instr) (f : Byte → Byte → Byte) : Prop :=
  ∀ src s, ∃ t, exec (i src) s = .next t ∧ t.a = f s.a (operand src s) ∧ ShowsZN (f s.a (operand src s)) t ∧
    ReadsOperand src [.A] [.Z, .N] s t

/-- The instruction `i` replaces its operand `v` by the byte with value `res v c`, `c` being the old carry, sets C to `out v`
and Z and N from the result, and does nothing else; on memory it is one read and one write of the same byte. -/
def Shifts (i : Place → Instr) (res : Byte → Bool → Nat) (out : Byte → Bool) : Prop :=
  (∀ s, ∃ t, exec (i .acc) s = .next t ∧ t.a.toNat = res s.a (s.flag .C) ∧ t.flag .C = out s.a ∧ ShowsZN t.a t ∧
    InPlace [.A] [.C, .Z, .N] s t) ∧
  (∀ m s, ∃ t r, exec (i (.mem m)) s = .next t ∧ r.toNat = res (memOperand m s) (s.flag .C) ∧
    t.mem.read (effAddr m s).toNat = r ∧ t.flag .C = out (memOperand m s) ∧ ShowsZN r t ∧
    Frame [] [.C, .Z, .N] [effAddr m s] s t ∧ t.pc = s.pc ∧ t.cycles = s.cycles ∧
    t.accesses = s.accesses ++ pointerReads m s ++ [.read (effAddr m s), .write (effAddr m s) r])

/-- The six read-modify-writes of the memory operand `m`, each with the value it gives the byte from the byte's old value and
the old carry (00_scope.md glossary, RMW; 45_shift_rotate.md R130 to R133, 46_inc_dec.md R140, R141). -/
def rmwRows (m : MemMode) : List (Instr × (Byte → Bool → Nat)) :=
  [(.asl (.mem m), fun v _ => 2 * v.toNat % 256), (.lsr (.mem m), fun v _ => v.toNat / 2),
   (.rol (.mem m), fun v c => (2 * v.toNat + c.toNat) % 256), (.ror (.mem m), fun v c => v.toNat / 2 + 128 * c.toNat),
   (.inc m, fun v _ => (v.toNat + 1) % 256), (.dec m, fun v _ => (v.toNat + 255) % 256)]

/-- The instruction `i` adds `delta` mod 256 to a memory byte, sets Z and N from the result, and does nothing else. -/
def AddsToMemory (i : MemMode → Instr) (delta : Nat) : Prop :=
  ∀ m s, ∃ t r, exec (i m) s = .next t ∧ r.toNat = ((memOperand m s).toNat + delta) % 256 ∧
    t.mem.read (effAddr m s).toNat = r ∧ ShowsZN r t ∧ Frame [] [.Z, .N] [effAddr m s] s t ∧ t.pc = s.pc ∧
    t.cycles = s.cycles ∧
    t.accesses = s.accesses ++ pointerReads m s ++ [.read (effAddr m s), .write (effAddr m s) r]

/-- The instruction `i` adds `delta` mod 256 to a register, sets Z and N from the result, and does nothing else. -/
def AddsToRegister (i : Instr) (r : Reg) (delta : Nat) : Prop :=
  ∀ s, ∃ t, exec i s = .next t ∧ (t.reg r).toNat = ((s.reg r).toNat + delta) % 256 ∧ ShowsZN (t.reg r) t ∧
    InPlace [r] [.Z, .N] s t

/-- The instruction `i` compares register `r` with its operand: C is the unsigned `R >= M`, Z is `R == M`, N is bit 7 of
the difference mod 256, and nothing else changes. -/
def ComparesWith (i : Source → Instr) (r : Reg) : Prop :=
  ∀ src s, ∃ t, exec (i src) s = .next t ∧
    t.flag .C = decide ((operand src s).toNat ≤ (s.reg r).toNat) ∧ t.flag .Z = decide (s.reg r = operand src s) ∧
    t.flag .N = decide (128 ≤ ((s.reg r).toNat + 256 - (operand src s).toNat) % 256) ∧
    ReadsOperand src [] [.C, .Z, .N] s t

/-- The branch `i` with opcode byte `op` tests `f` against `want`. `next` is the address after the branch, which PC holds
already: taken, PC becomes `next` plus the signed displacement mod 65536, at the cost of one cycle, or two into another
page; not taken, it stays; nothing else changes. -/
def BranchesOn (i : Byte → Instr) (op : Byte) (f : Flag) (want : Bool) : Prop :=
  ∀ (disp : Byte) (s : State) (pc0 : Word), s.pc = pc0 + 2#16 →
    (i disp).mode = .rel ∧ (i disp).length = 2 ∧ (i disp).opcode = some op ∧ baseCycles op = 2 ∧
    ∃ t, exec (i disp) s = .next t ∧
      (t.pc.toNat : Int) = (if s.flag f = want then ((pc0.toNat : Int) + 2 + disp.toInt) % 65536
        else ((pc0.toNat : Int) + 2) % 65536) ∧
      t.cycles = s.cycles + (if s.flag f = want then (if t.pc.toNat / 256 = s.pc.toNat / 256 then 1 else 2) else 0) ∧
      Frame [] [] [] s t ∧ t.accesses = s.accesses

/-- The flag instruction `i` with opcode byte `op` puts `b` in the flag `f` and changes no other bit of anything. -/
def PutsFlag (i : Instr) (op : Byte) (f : Flag) (b : Bool) : Prop :=
  i.opcode = some op ∧ baseCycles op = 2 ∧
    ∀ s, ∃ t, exec i s = .next t ∧ t.flag f = b ∧ InPlace [] [f] s t

/-- What an entry that pushes does, from `s` to `t`: the return address and the copy of P lie on the stack, high byte
highest, I is set, PC is the word at the vector, and nothing else changes. -/
structure Enters (vector : Word) (ret : Word) (copy : Byte) (s t : State) : Prop where
  pc : t.pc = busWord vector s
  sp : t.sp = s.sp - 3#8
  high : t.mem.read (stackAddr s.sp).toNat = highByte ret
  low : t.mem.read (stackAddr (s.sp - 1#8)).toNat = lowByte ret
  status : t.mem.read (stackAddr (s.sp - 2#8)).toNat = copy
  masked : t.flag .I = true
  frame : Frame [.SP] [.I] [stackAddr s.sp, stackAddr (s.sp - 1#8), stackAddr (s.sp - 2#8)] s t
  accesses : t.accesses = s.accesses ++ [.write (stackAddr s.sp) (highByte ret),
    .write (stackAddr (s.sp - 1#8)) (lowByte ret), .write (stackAddr (s.sp - 2#8)) copy, .read vector,
    .read (vector + 1#16)]
  cycles : t.cycles = s.cycles

end Sys2Proof.Statements

open Sys2Proof Sys2Proof.Machine Sys2Proof.Statements

/-! ### Encoding -/

/-- Every well-formed instruction encodes to as many bytes as its length says, and decoding them, whatever follows, gives it
back with every operand (30_encoding.md R50 to R56, 40_addressing_modes.md R84). -/
def Obligations.EncodeThenDecodeGivesInstruction : Prop :=
  ∀ (i : Instr) (rest : List Byte), i.WellFormed →
    ∃ bytes, encode i = some bytes ∧ bytes.length = i.length ∧ decode (bytes ++ rest) = .ok (i, rest)

/-- What decodes is well formed and encodes to the very bytes consumed (30_encoding.md R50 to R56). -/
def Obligations.DecodeThenEncodeGivesBytes : Prop :=
  ∀ (bytes rest : List Byte) (i : Instr), decode bytes = .ok (i, rest) →
    i.WellFormed ∧ ∃ used, encode i = some used ∧ bytes = used ++ rest

/-- Decoding never fails where the operand bytes are there: an opcode byte with two more bytes always decodes, and its length
depends on the opcode byte alone (30_encoding.md R50, R53). -/
def Obligations.EveryOpcodeByteDecodes : Prop :=
  ∀ (op b1 b2 : Byte) (rest : List Byte), ∃ i, decode (op :: b1 :: b2 :: rest) = .ok (i, (b1 :: b2 :: rest).drop (i.length - 1)) ∧
    i.length = opcodeLength op ∧ 1 ≤ i.length ∧ i.length ≤ 3

/-- The unused opcodes and NOP: one byte, two cycles, no effect (30_encoding.md R58, 49_stack_flag_system.md R193, R194). -/
def Obligations.UnusedAndNopDoNothing : Prop :=
  (∀ op ∈ unusedOpcodes, ∀ (rest : List Byte) (s : State),
    decode (op :: rest) = .ok (.unused op, rest) ∧ baseCycles op = 2 ∧ exec (.unused op) s = .next s) ∧
  (∀ (bytes rest : List Byte) (op : Byte), decode bytes = .ok (.unused op, rest) →
    op ∈ unusedOpcodes ∧ bytes = op :: rest) ∧
  (∀ (rest : List Byte) (s : State),
    decode (0xEA :: rest) = .ok (.nop, rest) ∧ baseCycles 0xEA = 2 ∧ exec .nop s = .next s) ∧
  (∀ s : State, NoEntry s → s.busAnswer s.pc ∈ unusedOpcodes ∨ s.busAnswer s.pc = 0xEA →
    ∃ t, step s = .next t ∧ t.pc.toNat = (s.pc.toNat + 1) % 65536 ∧ Frame [] [] [] s t ∧ t.accesses = [.read s.pc] ∧
      t.cycles = 2) ∧
  unusedOpcodes.length = 105

/-- A few words written out from the map of R55 decode to what they stand for, one per family. -/
def Obligations.SpecWordsDecodeAsSpecified : Prop :=
  decode [0xA9, 0x05, 0x8D, 0x00, 0x00] = .ok (.lda (.imm 0x05), [0x8D, 0x00, 0x00]) ∧
  decode [0x8D, 0x00, 0x02] = .ok (.sta (.abs 0x0200), []) ∧ decode [0xAA] = .ok (.tax, []) ∧
  decode [0x7D, 0xFF, 0x10] = .ok (.adc (.mem (.abx 0x10FF)), []) ∧ decode [0x24, 0x10] = .ok (.bit (.zp 0x10), []) ∧
  decode [0x6A] = .ok (.ror .acc, []) ∧ decode [0xCE, 0x00, 0x02] = .ok (.dec (.abs 0x0200), []) ∧
  decode [0xD1, 0x86] = .ok (.cmp (.mem (.izy 0x86)), []) ∧ decode [0x6C, 0x20, 0x01] = .ok (.jmp (.ind 0x0120), []) ∧
  decode [0xD0, 0xFB] = .ok (.bne 0xFB, []) ∧ decode [0x40] = .ok (.rti, []) ∧ decode [0x02] = .ok (.unused 0x02, [])

/-! ### The step -/

/-- Where no entry is recognised and the bytes the bus answers with at PC decode to `i`, a step is `exec i` of the state whose
PC has advanced past them; in plain memory those bytes are the stored ones (00_scope.md R9). -/
def Obligations.StepRunsTheDecodedInstruction : Prop :=
  ∀ (s : State) (i : Instr) (rest : List Byte), NoEntry s → decode (fetchedBytes s) = .ok (i, rest) →
    step s = exec i (s.advanced i) ∧ (s.advanced i).pc = s.pc + BitVec.ofNat 16 i.length ∧
    (s.advanced i).accesses = (List.range i.length).map (fun k => .read (s.pc + BitVec.ofNat 16 k)) ∧
    (PlainAt s [s.pc, s.pc + 1#16, s.pc + 2#16] →
      fetchedBytes s = [s.mem.read s.pc.toNat, s.mem.read (s.pc + 1#16).toNat, s.mem.read (s.pc + 2#16).toNat])

/-- `withFetchWord` lays an instruction's bytes where the very next step fetches them, in every state. -/
def Obligations.PlacedInstructionIsRunNext : Prop :=
  ∀ (s : State) (nbits w : Nat), ∃ i, decodeTableWord nbits w = some i ∧
    step (s.withFetchWord nbits w) = exec i ((s.withFetchWord nbits w).advanced i)

/-- Every step answers a next state: nothing faults, nothing is refused (60_exceptions.md R200, R225). -/
def Obligations.EveryStepAnswersNext : Prop := ∀ s : State, SafeStep s

/-- Every instruction completes in every state, whatever its operands (60_exceptions.md R200). -/
def Obligations.EveryInstructionCompletes : Prop := ∀ (i : Instr) (s : State), ∃ t, exec i s = .next t

/-- What a step does first, in priority order: reset, NMI (clearing its latch), IRQ where I is clear, else the instruction;
an entry costs 7 cycles (60_exceptions.md R203, R204, 70_reset_and_hazards.md R244). -/
def Obligations.StepRecognisesByPriority : Prop :=
  ∀ s : State,
    (s.resetReq = true → step s = .next ((raiseInterrupt .reset s.beginStep).addCycles 7)) ∧
    (s.resetReq = false → s.nmiPending = true → step s = .next ((raiseInterrupt .nmi s.beginStep).addCycles 7)) ∧
    (s.resetReq = false → s.nmiPending = false → s.irqLine = true → s.flag .I = false →
      step s = .next ((raiseInterrupt .irq s.beginStep).addCycles 7)) ∧
    (s.resetReq = false → s.nmiPending = false → s.irqLine = false ∨ s.flag .I = true →
      step s = exec (fetch s.beginStep).1 (fetch s.beginStep).2)

/-- A change of `P.I` is in force at the very next step: with IRQ requested and nothing of higher priority, the step after any
instruction is an IRQ entry exactly where that instruction left I clear (60_exceptions.md R204, 49_stack_flag_system.md R183,
R186). -/
def Obligations.InterruptMaskActsAtTheNextStep : Prop :=
  ∀ (i : Instr) (s t : State), exec i s = .next t → s.resetReq = false → s.nmiPending = false → s.irqLine = true →
    (t.flag .I = false → ∃ u, step t = .next u ∧ u.pc = busWord 0xFFFE t ∧ u.cycles = 7 ∧ u.flag .I = true ∧
      u.mem.read (stackAddr t.sp).toNat = highByte t.pc ∧ u.mem.read (stackAddr (t.sp - 1#8)).toNat = lowByte t.pc) ∧
    (t.flag .I = true → step t = exec (fetch t.beginStep).1 (fetch t.beginStep).2)

/-- The interrupt sequence of NMI, IRQ and BRK: what is pushed, which vector, what changes and what does not; NMI also clears
its latch. BRK's `pc0` is the address of its one byte, which PC has passed (60_exceptions.md R205). -/
def Obligations.InterruptSequenceEffect : Prop :=
  ∀ s : State,
    (raiseInterrupt .nmi s).nmiPending = false ∧
    Enters 0xFFFA s.pc ((s.p ||| 0x20) &&& 0xEF) s.clearNmi (raiseInterrupt .nmi s) ∧
    Enters 0xFFFE s.pc ((s.p ||| 0x20) &&& 0xEF) s (raiseInterrupt .irq s) ∧
    (∀ pc0 : Word, s.pc = pc0 + 1#16 → Enters 0xFFFE (pc0 + 2#16) (s.p ||| 0x30) s (raiseInterrupt .brk s))

/-- A step with `reset_req` active is a warm reset: SP minus 3, I set, PC from the reset vector, the NMI latch cleared, and
nothing else changed, no memory byte written (10_state.md R27, 60_exceptions.md R208, 70_reset_and_hazards.md R244). That the
latch is cleared also where an NMI is requested together with the reset is the model's choice between R27 and a sentence of
60_exceptions.md R203 (log entry 18). -/
def Obligations.WarmResetStep : Prop :=
  ∀ s : State, s.resetReq = true → ∃ t, step s = .next t ∧ t.sp = s.sp - 3#8 ∧ t.flag .I = true ∧
    t.pc = busWord 0xFFFC s ∧ t.nmiPending = false ∧ Frame [.SP] [.I] [] s.clearNmi t ∧
    t.accesses = [.read 0xFFFC, .read 0xFFFD] ∧ t.cycles = 7

/-- Power-on constructs the register values whatever they were and loads PC from the reset vector; it writes no memory
(10_state.md R26). -/
def Obligations.PowerOnValues : Prop :=
  ∀ s : State, (coldReset s).a = 0x00 ∧ (coldReset s).x = 0x00 ∧ (coldReset s).y = 0x00 ∧ (coldReset s).sp = 0xFD ∧
    (coldReset s).p = 0x34 ∧ (coldReset s).pc = busWord 0xFFFC s ∧ (coldReset s).nmiPending = false ∧
    (coldReset s).mem = s.mem ∧ (coldReset s).accesses = [.read 0xFFFC, .read 0xFFFD] ∧ (coldReset s).cycles = 7

/-- The model's reset state is power-on over a memory that lists nothing. Its memory contents, its I/O map and its input
levels are the model's choices (log entries 1 to 5), not the spec's. -/
def Obligations.ResetStateIsPowerOn : Prop :=
  ∀ s : State, s.mem = [] → s.ioRegions = Config.nesIoRegions → s.ioReads = 0 → s.irqLine = false → s.resetReq = false →
    coldReset s = State.reset

/-- The reset state meets the invariant. -/
def Obligations.ResetStateMeetsInvariant : Prop := State.reset.Inv

/-- Every step keeps bits 5 and 4 of P at 1 (10_state.md R21) and memory in its canonical form. -/
def Obligations.EveryStepKeepsInvariant : Prop := ∀ s t : State, s.Inv → step s = .next t → t.Inv

/-- Every state a run reaches, from power-on or from a constructed state, by steps and by the environment's events, meets
the invariant and can step again (10_state.md R21, R28, R29; 20_memory.md R44). -/
def Obligations.ReachableStatesAreSafe : Prop := ∀ s : State, Reachable s → s.Inv ∧ SafeStep s

/-- Every step costs at least 2 and at most 7 cycles (70_reset_and_hazards.md R240 to R244). -/
def Obligations.EveryStepCostsTwoToSeven : Prop := ∀ s t : State, step s = .next t → 2 ≤ t.cycles ∧ t.cycles ≤ 7

/-- No instruction changes the NMI latch, the input levels or the I/O map (10_state.md R23 to R25, R29). -/
def Obligations.InstructionsKeepInputs : Prop :=
  ∀ (i : Instr) (s t : State), exec i s = .next t → KeepsInputs s t

/-- PC advances by the instruction's length, unless the instruction is one of the control transfers; a branch that is not
taken advances by 2 (10_state.md R18). -/
def Obligations.PcAdvancesByLength : Prop :=
  ∀ (s t : State) (i : Instr) (rest : List Byte), NoEntry s → decode (fetchedBytes s) = .ok (i, rest) → step s = .next t →
    (i.setsPc = false → i.branchTest = none → t.pc.toNat = (s.pc.toNat + i.length) % 65536) ∧
    (∀ f want, i.branchTest = some (f, want) → s.flag f ≠ want → t.pc.toNat = (s.pc.toNat + 2) % 65536)

/-- A register changes only by the instructions the tables of 10_state.md R11 and R14 list for it. -/
def Obligations.OnlyListedInstructionsWriteRegisters : Prop :=
  ∀ (i : Instr) (s t : State) (r : Reg), exec i s = .next t → t.reg r ≠ s.reg r → i.writesReg r = true

/-- A flag changes only by the instructions the table of 10_state.md R22 lists for it; bits 5 and 4 change only where PLP or
RTI sets them. -/
def Obligations.OnlyListedInstructionsWriteFlags : Prop :=
  ∀ (i : Instr) (s t : State), exec i s = .next t →
    (∀ f, t.flag f ≠ s.flag f → i.writesFlag f = true) ∧
    (t.p.getLsbD 4 = s.p.getLsbD 4 ∨ (i.isOneOf ["PLP", "RTI"] = true ∧ t.p.getLsbD 4 = true)) ∧
    (t.p.getLsbD 5 = s.p.getLsbD 5 ∨ (i.isOneOf ["PLP", "RTI"] = true ∧ t.p.getLsbD 5 = true))

/-- Memory changes only by the stores, the read-modify-writes and the pushes (20_memory.md R37, 10_state.md R14). -/
def Obligations.OnlyListedInstructionsWriteMemory : Prop :=
  ∀ (i : Instr) (s t : State), exec i s = .next t → t.mem ≠ s.mem → i.writesMemory = true

/-! ### Addressing modes and the bus -/

/-- The zero-page modes: the address lies in page 0, index sums wrap mod 256, no page cross, no access of their own, and ZPY
is a mode of LDX and STX only (40_addressing_modes.md R74, R75, R76). -/
def Obligations.ZeroPageModesStayInPageZero : Prop :=
  ∀ (b : Byte) (s : State),
    (effAddr (.zp b) s).toNat = b.toNat ∧
    (effAddr (.zpx b) s).toNat = (b.toNat + s.x.toNat) % 256 ∧
    (effAddr (.zpy b) s).toNat = (b.toNat + s.y.toNat) % 256 ∧
    (∀ m ∈ [MemMode.zp b, .zpx b, .zpy b], (resolve m s).1.cross = false ∧ (resolve m s).2 = s) ∧
    ∀ i : Instr, i.WellFormed → i.mode = .zpy → i.isOneOf ["LDX", "STX"] = true

/-- The absolute modes: index sums wrap mod 65536, a page cross is a change of the high byte, and the one access is at the
final address (40_addressing_modes.md R77, R78). -/
def Obligations.AbsoluteModesAddTheIndex : Prop :=
  ∀ (w : Word) (s : State),
    effAddr (.abs w) s = w ∧ (resolve (.abs w) s).1.cross = false ∧
    (effAddr (.abx w) s).toNat = (w.toNat + s.x.toNat) % 65536 ∧
    (effAddr (.aby w) s).toNat = (w.toNat + s.y.toNat) % 65536 ∧
    (∀ m ∈ [MemMode.abx w, .aby w],
      (resolve m s).1.cross = decide ((effAddr m s).toNat / 256 ≠ w.toNat / 256)) ∧
    ∀ m ∈ [MemMode.abs w, .abx w, .aby w], (resolve m s).2 = s ∧
      (readMem m s).2.accesses = s.accesses ++ [.read (effAddr m s)] ∧
      ∀ v, (storeTo m v s).accesses = s.accesses ++ [.write (effAddr m s) v]

/-- The indirect modes: both pointer bytes come from page 0, low byte first; Y is added after the dereference mod 65536
(40_addressing_modes.md R80, R81). -/
def Obligations.IndirectModesDereferencePageZero : Prop :=
  ∀ (b : Byte) (s : State),
    (effAddr (.izx b) s = wordOf ((s.noteRead (zext16 (b + s.x))).busAnswer (zext16 (b + s.x + 1#8)))
      (s.busAnswer (zext16 (b + s.x))) ∧
      (resolve (.izx b) s).1.cross = false) ∧
    (∃ base, base = wordOf ((s.noteRead (zext16 b)).busAnswer (zext16 (b + 1#8))) (s.busAnswer (zext16 b)) ∧
      (effAddr (.izy b) s).toNat = (base.toNat + s.y.toNat) % 65536 ∧
      (resolve (.izy b) s).1.cross = decide ((effAddr (.izy b) s).toNat / 256 ≠ base.toNat / 256)) ∧
    (∀ v : Byte, (zext16 v).toNat = v.toNat) ∧
    ∀ m ∈ [MemMode.izx b, .izy b],
      (resolve m s).2.accesses = s.accesses ++ pointerReads m s ∧ (resolve m s).2.cycles = s.cycles

/-- Reads and writes of the bus: outside `IO_REGIONS` a read answers the byte most recently written there, and a write leaves
every other address as it was; inside, an external agent answers, with a fresh free value each time; both are total and
each access is seen on the bus once (20_memory.md R31, R32). -/
def Obligations.BusAnswersLatestWriteOrAgent : Prop :=
  ∀ (s : State) (w : Word) (v : Byte),
    (s.isIo w = false → (memRead w s).1 = s.mem.read w.toNat ∧ (memRead w (memWrite w v s)).1 = v) ∧
    (s.isIo w = true → (memRead w s).1 = Config.ioRead s.ioReads w ∧ (memRead w s).2.ioReads = s.ioReads + 1) ∧
    (∀ u : Word, u ≠ w → (memWrite w v s).mem.read u.toNat = s.mem.read u.toNat) ∧
    (memRead w s).2.accesses = s.accesses ++ [.read w] ∧ (memRead w s).2.mem = s.mem ∧
    (memWrite w v s).accesses = s.accesses ++ [.write w v]

/-! ### Loads, stores, transfers -/

/-- LDA, LDX, LDY (41_load_store.md R90, R91, R92). -/
def Obligations.LoadsWriteRegisterAndZN : Prop :=
  (∀ src, RowsOf (.lda src) (readRows 0xA9 0xA5 0xB5 0xAD 0xBD 0xB9 0xA1 0xB1) ∧
    RowsOf (.ldx src) [(.imm, 0xA2, 2), (.zp, 0xA6, 3), (.zpy, 0xB6, 4), (.abs, 0xAE, 4), (.aby, 0xBE, 4)] ∧
    RowsOf (.ldy src) [(.imm, 0xA0, 2), (.zp, 0xA4, 3), (.zpx, 0xB4, 4), (.abs, 0xAC, 4), (.abx, 0xBC, 4)]) ∧
  LoadsInto .lda .A ∧ LoadsInto .ldx .X ∧ LoadsInto .ldy .Y

/-- STA, STX, STY (41_load_store.md R93, R94, R95). -/
def Obligations.StoresWriteOneByteAndNoFlag : Prop :=
  (∀ m, RowsOf (.sta m)
      [(.zp, 0x85, 3), (.zpx, 0x95, 4), (.abs, 0x8D, 4), (.abx, 0x9D, 5), (.aby, 0x99, 5), (.izx, 0x81, 6), (.izy, 0x91, 6)] ∧
    RowsOf (.stx m) [(.zp, 0x86, 3), (.zpy, 0x96, 4), (.abs, 0x8E, 4)] ∧
    RowsOf (.sty m) [(.zp, 0x84, 3), (.zpx, 0x94, 4), (.abs, 0x8C, 4)]) ∧
  StoresFrom .sta .A ∧ StoresFrom .stx .X ∧ StoresFrom .sty .Y

/-- A load followed by a store of the same register: memory, register, Z and N all show the value (41_load_store.md R96). R96
speaks of an ordinary address; that the byte store shows the value also where the store goes to an `IO_REGIONS` address is the
model's choice, the stored copy of log entry 6, which no bus read answers. -/
def Obligations.LoadThenStoreKeepsTheValue : Prop :=
  ∀ (src : Source) (m : MemMode) (s t u : State),
    (exec (.lda src) s = .next t → exec (.sta m) t = .next u →
      u.mem.read (effAddr m t).toNat = operand src s ∧ u.a = operand src s ∧ ShowsZN (operand src s) u) ∧
    (exec (.ldx src) s = .next t → exec (.stx m) t = .next u →
      u.mem.read (effAddr m t).toNat = operand src s ∧ u.x = operand src s ∧ ShowsZN (operand src s) u) ∧
    (exec (.ldy src) s = .next t → exec (.sty m) t = .next u →
      u.mem.read (effAddr m t).toNat = operand src s ∧ u.y = operand src s ∧ ShowsZN (operand src s) u)

/-- TAX, TAY, TXA, TYA, TSX (42_transfer.md R100 to R104). -/
def Obligations.TransfersCopyAndSetZN : Prop :=
  Transfers .tax .A .X ∧ Transfers .tay .A .Y ∧ Transfers .txa .X .A ∧ Transfers .tya .Y .A ∧ Transfers .tsx .SP .X ∧
  Instr.tax.opcode = some 0xAA ∧ Instr.tay.opcode = some 0xA8 ∧ Instr.txa.opcode = some 0x8A ∧
  Instr.tya.opcode = some 0x98 ∧ Instr.tsx.opcode = some 0xBA ∧
  ∀ op ∈ [(0xAA : Byte), 0xA8, 0x8A, 0x98, 0xBA], baseCycles op = 2

/-- TXS writes SP and no flag, and the next push writes `0x0100 + X` (42_transfer.md R105). -/
def Obligations.TxsWritesStackPointerOnly : Prop :=
  Instr.txs.opcode = some 0x9A ∧ baseCycles 0x9A = 2 ∧
  ∀ s : State, ∃ t, exec .txs s = .next t ∧ t.sp = s.x ∧ InPlace [.SP] [] s t ∧
    ∃ u, exec .pha t = .next u ∧ u.mem.read (0x0100 + s.x.toNat) = s.a

/-! ### Arithmetic and logic -/

/-- ADC: the sum mod 256, the unsigned carry, the overflow, Z and N; D is not read (43_arithmetic.md R110). -/
def Obligations.AdcAddsWithCarry : Prop :=
  (∀ src, RowsOf (.adc src) (readRows 0x69 0x65 0x75 0x6D 0x7D 0x79 0x61 0x71)) ∧
  ∀ (src : Source) (s : State), ∃ t, exec (.adc src) s = .next t ∧
    t.a.toNat = (s.a.toNat + (operand src s).toNat + (s.flag .C).toNat) % 256 ∧
    t.flag .C = decide (s.a.toNat + (operand src s).toNat + (s.flag .C).toNat > 255) ∧
    t.flag .V = ((s.a ^^^ t.a) &&& (operand src s ^^^ t.a)).getLsbD 7 ∧ ShowsZN t.a t ∧
    ReadsOperand src [.A] [.C, .V, .Z, .N] s t

/-- SBC: the difference mod 256 less the borrow, C as no borrow, the overflow, Z and N; D is not read (43_arithmetic.md
R111). -/
def Obligations.SbcSubtractsWithBorrow : Prop :=
  (∀ src, RowsOf (.sbc src) (readRows 0xE9 0xE5 0xF5 0xED 0xFD 0xF9 0xE1 0xF1)) ∧
  ∀ (src : Source) (s : State), ∃ t, exec (.sbc src) s = .next t ∧
    t.a.toNat = (s.a.toNat + (255 - (operand src s).toNat) + (s.flag .C).toNat) % 256 ∧
    t.flag .C = decide (s.a.toNat + (255 - (operand src s).toNat) + (s.flag .C).toNat > 255) ∧
    t.flag .V = ((s.a ^^^ t.a) &&& (operand src s ^^^ 0xFF ^^^ t.a)).getLsbD 7 ∧ ShowsZN t.a t ∧
    ReadsOperand src [.A] [.C, .V, .Z, .N] s t

/-- SBC of an operand leaves the A and P that ADC of the operand's one's complement leaves: an inference the spec marks as its
own (43_arithmetic.md R111). -/
def Obligations.SbcIsAdcOfComplement : Prop :=
  ∀ (src : Source) (s t : State), exec (.sbc src) s = .next t →
    ∃ u, exec (.adc (.imm (operand src s ^^^ 0xFF))) s = .next u ∧ t.a = u.a ∧ t.p = u.p

/-- V is 1 exactly when the true signed result lies outside -128 to 127, and C with A holds the true unsigned result, for ADC
and SBC (43_arithmetic.md R113). -/
def Obligations.OverflowIsSignedOutOfRange : Prop :=
  ∀ (src : Source) (s t : State) (sum diff : Int),
    sum = s.a.toInt + (operand src s).toInt + (s.flag .C).toNat →
    diff = s.a.toInt - (operand src s).toInt - (1 - (s.flag .C).toNat) →
    (exec (.adc src) s = .next t →
      t.flag .V = decide (sum < -128 ∨ 127 < sum) ∧
      256 * (t.flag .C).toNat + t.a.toNat = s.a.toNat + (operand src s).toNat + (s.flag .C).toNat) ∧
    (exec (.sbc src) s = .next t →
      t.flag .V = decide (diff < -128 ∨ 127 < diff) ∧
      (t.a.toNat : Int) - 256 * (1 - (t.flag .C).toNat) =
        s.a.toNat - (operand src s).toNat - (1 - (s.flag .C).toNat))

/-- ADC and SBC neither read nor write D: with D changed beforehand they do the same (43_arithmetic.md R110, R111). -/
def Obligations.ArithmeticIgnoresDecimalFlag : Prop :=
  ∀ (src : Source) (s t : State) (d : Bool),
    (exec (.adc src) s = .next t → exec (.adc src) (s.setFlag .D d) = .next (t.setFlag .D d)) ∧
    (exec (.sbc src) s = .next t → exec (.sbc src) (s.setFlag .D d) = .next (t.setFlag .D d))

/-- AND, ORA, EOR (44_logical.md R120, R121, R122). -/
def Obligations.LogicalInstructionsCombineWithA : Prop :=
  (∀ src, RowsOf (.and src) (readRows 0x29 0x25 0x35 0x2D 0x3D 0x39 0x21 0x31) ∧
    RowsOf (.ora src) (readRows 0x09 0x05 0x15 0x0D 0x1D 0x19 0x01 0x11) ∧
    RowsOf (.eor src) (readRows 0x49 0x45 0x55 0x4D 0x5D 0x59 0x41 0x51)) ∧
  CombinesWithA .and (fun a m => a &&& m) ∧ CombinesWithA .ora (fun a m => a ||| m) ∧
  CombinesWithA .eor (fun a m => a ^^^ m)

/-- BIT: Z from `A & M`, N and V from M itself, nothing stored (44_logical.md R123). -/
def Obligations.BitTestsMemoryAgainstA : Prop :=
  (∀ m, RowsOf (.bit m) [(.zp, 0x24, 3), (.abs, 0x2C, 4)]) ∧
  ∀ (m : MemMode) (s : State), ∃ t, exec (.bit m) s = .next t ∧
    t.flag .Z = decide (s.a &&& memOperand m s = 0) ∧ t.flag .N = (memOperand m s).getLsbD 7 ∧
    t.flag .V = (memOperand m s).getLsbD 6 ∧ ReadsOperand (.mem m) [] [.Z, .N, .V] s t

/-! ### Shifts, increments, compares -/

/-- ASL, LSR, ROL, ROR on A and on memory (45_shift_rotate.md R130 to R133). -/
def Obligations.ShiftsMoveOneBit : Prop :=
  (∀ pl, RowsOf (.asl pl) (shiftRows 0x0A 0x06 0x16 0x0E 0x1E) ∧ RowsOf (.lsr pl) (shiftRows 0x4A 0x46 0x56 0x4E 0x5E) ∧
    RowsOf (.rol pl) (shiftRows 0x2A 0x26 0x36 0x2E 0x3E) ∧ RowsOf (.ror pl) (shiftRows 0x6A 0x66 0x76 0x6E 0x7E)) ∧
  Shifts .asl (fun v _ => 2 * v.toNat % 256) (fun v => v.getLsbD 7) ∧
  Shifts .lsr (fun v _ => v.toNat / 2) (fun v => v.getLsbD 0) ∧
  Shifts .rol (fun v c => (2 * v.toNat + c.toNat) % 256) (fun v => v.getLsbD 7) ∧
  Shifts .ror (fun v c => v.toNat / 2 + 128 * c.toNat) (fun v => v.getLsbD 0)

/-- ROL then ROR of A, and ROR then ROL, restore A and C (45_shift_rotate.md R134). -/
def Obligations.OppositeRotatesCancel : Prop :=
  ∀ s t u : State,
    (exec (.rol .acc) s = .next t → exec (.ror .acc) t = .next u → u.a = s.a ∧ u.flag .C = s.flag .C) ∧
    (exec (.ror .acc) s = .next t → exec (.rol .acc) t = .next u → u.a = s.a ∧ u.flag .C = s.flag .C)

/-- INC and DEC (46_inc_dec.md R140, R141). -/
def Obligations.IncDecChangeMemoryByOne : Prop :=
  (∀ m, RowsOf (.inc m) [(.zp, 0xE6, 5), (.zpx, 0xF6, 6), (.abs, 0xEE, 6), (.abx, 0xFE, 7)] ∧
    RowsOf (.dec m) [(.zp, 0xC6, 5), (.zpx, 0xD6, 6), (.abs, 0xCE, 6), (.abx, 0xDE, 7)]) ∧
  AddsToMemory .inc 1 ∧ AddsToMemory .dec 255

/-- INX, INY, DEX, DEY (46_inc_dec.md R142 to R145). -/
def Obligations.IndexRegistersWrapAtEightBits : Prop :=
  AddsToRegister .inx .X 1 ∧ AddsToRegister .iny .Y 1 ∧ AddsToRegister .dex .X 255 ∧ AddsToRegister .dey .Y 255 ∧
  Instr.inx.opcode = some 0xE8 ∧ Instr.iny.opcode = some 0xC8 ∧ Instr.dex.opcode = some 0xCA ∧
  Instr.dey.opcode = some 0x88 ∧ ∀ op ∈ [(0xE8 : Byte), 0xC8, 0xCA, 0x88], baseCycles op = 2

/-- CMP, CPX, CPY (47_compare.md R150, R151, R152). -/
def Obligations.ComparesSetFlagsOnly : Prop :=
  (∀ src, RowsOf (.cmp src) (readRows 0xC9 0xC5 0xD5 0xCD 0xDD 0xD9 0xC1 0xD1) ∧
    RowsOf (.cpx src) [(.imm, 0xE0, 2), (.zp, 0xE4, 3), (.abs, 0xEC, 4)] ∧
    RowsOf (.cpy src) [(.imm, 0xC0, 2), (.zp, 0xC4, 3), (.abs, 0xCC, 4)]) ∧
  ComparesWith .cmp .A ∧ ComparesWith .cpx .X ∧ ComparesWith .cpy .Y

/-- A compare gives the C, Z and N that SEC and SBC of the same operand give, and the branches after it are taken by the
unsigned comparison (47_compare.md R153). -/
def Obligations.CompareAgreesWithSubtraction : Prop :=
  ∀ (src : Source) (s t u v : State), exec (.cmp src) s = .next t → exec .sec s = .next u → exec (.sbc src) u = .next v →
    t.flag .C = v.flag .C ∧ t.flag .Z = v.flag .Z ∧ t.flag .N = v.flag .N ∧
    ∀ disp : Byte,
      (∃ w, exec (.bcs disp) t = .next w ∧
        w.pc = if (operand src s).toNat ≤ s.a.toNat then t.pc + sext16 disp else t.pc) ∧
      (∃ w, exec (.bcc disp) t = .next w ∧
        w.pc = if s.a.toNat < (operand src s).toNat then t.pc + sext16 disp else t.pc) ∧
      (∃ w, exec (.beq disp) t = .next w ∧ w.pc = if s.a = operand src s then t.pc + sext16 disp else t.pc) ∧
      (∃ w, exec (.bne disp) t = .next w ∧ w.pc = if s.a ≠ operand src s then t.pc + sext16 disp else t.pc)

/-! ### Control transfer -/

/-- The eight branches (48_control_transfer.md R160 to R168). -/
def Obligations.BranchesTestOneFlag : Prop :=
  BranchesOn .bcc 0x90 .C false ∧ BranchesOn .bcs 0xB0 .C true ∧ BranchesOn .beq 0xF0 .Z true ∧
  BranchesOn .bne 0xD0 .Z false ∧ BranchesOn .bmi 0x30 .N true ∧ BranchesOn .bpl 0x10 .N false ∧
  BranchesOn .bvc 0x50 .V false ∧ BranchesOn .bvs 0x70 .V true

/-- JMP: the ABS target is not read, the IND pointer is, its high byte at `ptr + 1` mod 65536 (48_control_transfer.md
R169). -/
def Obligations.JmpSetsPc : Prop :=
  (∀ t, RowsOf (.jmp t) [(.abs, 0x4C, 3), (.ind, 0x6C, 5)]) ∧
  ∀ (w : Word) (s : State),
    (∃ t, exec (.jmp (.abs w)) s = .next t ∧ t.pc = w ∧ Frame [] [] [] s t ∧ t.accesses = s.accesses ∧
      t.cycles = s.cycles) ∧
    (∃ t, exec (.jmp (.ind w)) s = .next t ∧
      t.pc = wordOf ((s.noteRead w).busAnswer (BitVec.ofNat 16 ((w.toNat + 1) % 65536))) (s.busAnswer w) ∧
      Frame [] [] [] s t ∧
      t.accesses = s.accesses ++ [.read w, .read (BitVec.ofNat 16 ((w.toNat + 1) % 65536))] ∧ t.cycles = s.cycles)

/-- JSR pushes the address of its last byte, high byte first, and jumps (48_control_transfer.md R170). -/
def Obligations.JsrPushesReturnAddress : Prop :=
  (∀ w, (Instr.jsr w).opcode = some 0x20) ∧ baseCycles 0x20 = 6 ∧
  ∀ (w pc0 : Word) (s : State), s.pc = pc0 + 3#16 → ∃ t, exec (.jsr w) s = .next t ∧ t.pc = w ∧ t.sp = s.sp - 2#8 ∧
    t.mem.read (stackAddr s.sp).toNat = highByte (pc0 + 2#16) ∧
    t.mem.read (stackAddr (s.sp - 1#8)).toNat = lowByte (pc0 + 2#16) ∧
    Frame [.SP] [] [stackAddr s.sp, stackAddr (s.sp - 1#8)] s t ∧ t.cycles = s.cycles ∧
    t.accesses = s.accesses ++ [.write (stackAddr s.sp) (highByte (pc0 + 2#16)),
      .write (stackAddr (s.sp - 1#8)) (lowByte (pc0 + 2#16))]

/-- RTS pulls the low byte, then the high byte, and adds 1 (48_control_transfer.md R171). -/
def Obligations.RtsPullsAndAddsOne : Prop :=
  Instr.rts.opcode = some 0x60 ∧ baseCycles 0x60 = 6 ∧
  ∀ s : State, ∃ t, exec .rts s = .next t ∧
    t.pc = wordOf ((s.noteRead (stackAddr (s.sp + 1#8))).busAnswer (stackAddr (s.sp + 2#8)))
      (s.busAnswer (stackAddr (s.sp + 1#8))) + 1#16 ∧
    t.sp = s.sp + 2#8 ∧ Frame [.SP] [] [] s t ∧ t.cycles = s.cycles ∧
    t.accesses = s.accesses ++ [.read (stackAddr (s.sp + 1#8)), .read (stackAddr (s.sp + 2#8))]

/-- A JSR, then any code that leaves SP and the two pushed bytes intact, then an RTS: PC is the address after the JSR and SP
is as before it (48_control_transfer.md R172). -/
def Obligations.RtsReturnsAfterJsr : Prop :=
  ∀ (w pc0 : Word) (s t t' u : State), s.pc = pc0 + 3#16 → exec (.jsr w) s = .next t → t'.sp = t.sp →
    (∀ addr ∈ [stackAddr s.sp, stackAddr (s.sp - 1#8)],
      t'.isIo addr = false ∧ t'.mem.read addr.toNat = t.mem.read addr.toNat) →
    exec .rts t' = .next u → u.pc = pc0 + 3#16 ∧ u.sp = s.sp

/-! ### Stack, flags, system -/

/-- PHA and PHP: write at `0x0100 + SP`, then decrement SP mod 256 (10_state.md R13, R15, 49_stack_flag_system.md R180,
R181). -/
def Obligations.PushesWriteThenDecrement : Prop :=
  Instr.pha.opcode = some 0x48 ∧ Instr.php.opcode = some 0x08 ∧ baseCycles 0x48 = 3 ∧ baseCycles 0x08 = 3 ∧
  ∀ s : State, (stackAddr s.sp).toNat = 0x0100 + s.sp.toNat ∧
    ∀ iv ∈ [(Instr.pha, s.a), (.php, s.p ||| 0x30)], ∃ t, exec iv.1 s = .next t ∧
      t.mem.read (0x0100 + s.sp.toNat) = iv.2 ∧ t.sp.toNat = (s.sp.toNat + 255) % 256 ∧
      Frame [.SP] [] [stackAddr s.sp] s t ∧ t.pc = s.pc ∧ t.cycles = s.cycles ∧
      t.accesses = s.accesses ++ [.write (stackAddr s.sp) iv.2]

/-- PLA and PLP: increment SP mod 256, then read at `0x0100 + SP`; PLA sets Z and N, PLP loads all six flags and keeps bits 5
and 4 at 1 (10_state.md R16, R21, 49_stack_flag_system.md R182, R183). -/
def Obligations.PullsIncrementThenRead : Prop :=
  Instr.pla.opcode = some 0x68 ∧ Instr.plp.opcode = some 0x28 ∧ baseCycles 0x68 = 4 ∧ baseCycles 0x28 = 4 ∧
  ∀ (s : State) (v : Byte), v = s.busAnswer (stackAddr (s.sp + 1#8)) →
    (∃ t, exec .pla s = .next t ∧ t.a = v ∧ ShowsZN v t ∧ t.sp.toNat = (s.sp.toNat + 1) % 256 ∧
      Frame [.A, .SP] [.Z, .N] [] s t ∧ t.pc = s.pc ∧ t.cycles = s.cycles ∧
      t.accesses = s.accesses ++ [.read (stackAddr (s.sp + 1#8))]) ∧
    (∃ t, exec .plp s = .next t ∧ (∀ f, t.flag f = getFlag v f) ∧ t.p.getLsbD 4 = true ∧ t.p.getLsbD 5 = true ∧
      t.sp.toNat = (s.sp.toNat + 1) % 256 ∧ Frame [.SP] [.C, .Z, .I, .D, .V, .N] [] (s.setP t.p) t ∧ t.pc = s.pc ∧
      t.cycles = s.cycles ∧ t.accesses = s.accesses ++ [.read (stackAddr (s.sp + 1#8))])

/-- A push and the pull that undoes it restore SP and the byte: PHA then PLA restores A and SP, PHP then PLP restores P and SP
(10_state.md R16, 49_stack_flag_system.md R182, R183). -/
def Obligations.PushThenPullRestores : Prop :=
  ∀ s t u : State, s.isIo (stackAddr s.sp) = false →
    (exec .pha s = .next t → exec .pla t = .next u → u.a = s.a ∧ u.sp = s.sp) ∧
    (s.p &&& 0x30 = 0x30 → exec .php s = .next t → exec .plp t = .next u → u.p = s.p ∧ u.sp = s.sp)

/-- The seven flag instructions (49_stack_flag_system.md R184 to R190). -/
def Obligations.FlagInstructionsPutOneBit : Prop :=
  PutsFlag .clc 0x18 .C false ∧ PutsFlag .sec 0x38 .C true ∧ PutsFlag .cli 0x58 .I false ∧ PutsFlag .sei 0x78 .I true ∧
  PutsFlag .cld 0xD8 .D false ∧ PutsFlag .sed 0xF8 .D true ∧ PutsFlag .clv 0xB8 .V false

/-- BRK takes the interrupt sequence: it pushes `pc0 + 2` and P with bits 5 and 4 set, sets I and jumps through the IRQ vector
(49_stack_flag_system.md R191). -/
def Obligations.BrkTakesTheInterruptSequence : Prop :=
  Instr.brk.opcode = some 0x00 ∧ Instr.brk.length = 1 ∧ baseCycles 0x00 = 7 ∧
  ∀ (pc0 : Word) (s : State), s.pc = pc0 + 1#16 →
    ∃ t, exec .brk s = .next t ∧ Enters 0xFFFE (pc0 + 2#16) (s.p ||| 0x30) s t

/-- RTI pulls the flags, then PC low, then PC high, and adds nothing (49_stack_flag_system.md R192). -/
def Obligations.RtiPullsFlagsAndPc : Prop :=
  Instr.rti.opcode = some 0x40 ∧ baseCycles 0x40 = 6 ∧
  ∀ (s s1 s2 : State) (v : Byte), v = s.busAnswer (stackAddr (s.sp + 1#8)) →
    s1 = s.noteRead (stackAddr (s.sp + 1#8)) → s2 = s1.noteRead (stackAddr (s.sp + 2#8)) →
    ∃ t, exec .rti s = .next t ∧ t.p = (v &&& 0xCF) ||| 0x30 ∧
      t.pc = wordOf (s2.busAnswer (stackAddr (s.sp + 3#8))) (s1.busAnswer (stackAddr (s.sp + 2#8))) ∧
      t.sp = s.sp + 3#8 ∧ Frame [.SP] [] [] (s.setP t.p) t ∧ t.cycles = s.cycles ∧
      t.accesses = s.accesses ++ [.read (stackAddr (s.sp + 1#8)), .read (stackAddr (s.sp + 2#8)),
        .read (stackAddr (s.sp + 3#8))]

/-- An IRQ or NMI entry, then any handler that leaves SP and the three pushed bytes intact, then RTI: PC, all of P and SP are
those of the interrupted program (60_exceptions.md R206, R209, R210). -/
def Obligations.RtiResumesTheInterruptedProgram : Prop :=
  ∀ s t t' u : State, s.Inv → s.resetReq = false → (s.nmiPending = true ∨ (s.irqLine = true ∧ s.flag .I = false)) →
    step s = .next t → t'.sp = t.sp →
    (∀ addr ∈ [stackAddr s.sp, stackAddr (s.sp - 1#8), stackAddr (s.sp - 2#8)],
      t'.isIo addr = false ∧ t'.mem.read addr.toNat = t.mem.read addr.toNat) →
    exec .rti t' = .next u → u.pc = s.pc ∧ u.p = s.p ∧ u.sp = s.sp

/-- The environment's events change what they name and nothing else: an NMI request sets the latch (and while one is pending
changes nothing), a level becomes the value given, a byte of memory becomes the byte written (10_state.md R23 to R25,
20_memory.md R44). -/
def Obligations.EventsChangeOnlyTheirTarget : Prop :=
  ∀ s : State,
    (∀ e : EnvEvent, (s.applyEvent e).pc = s.pc ∧ (s.applyEvent e).p = s.p ∧ (∀ r, (s.applyEvent e).reg r = s.reg r) ∧
      (s.applyEvent e).ioRegions = s.ioRegions ∧ (s.applyEvent e).ioReads = s.ioReads ∧
      (s.applyEvent e).accesses = s.accesses ∧ (s.applyEvent e).cycles = s.cycles) ∧
    ((s.applyEvent .requestNmi).nmiPending = true ∧ (s.applyEvent .requestNmi).irqLine = s.irqLine ∧
      (s.applyEvent .requestNmi).resetReq = s.resetReq ∧ (s.applyEvent .requestNmi).mem = s.mem ∧
      (s.nmiPending = true → s.applyEvent .requestNmi = s)) ∧
    (∀ b : Bool, (s.applyEvent (.setIrqLine b)).irqLine = b ∧ (s.applyEvent (.setIrqLine b)).nmiPending = s.nmiPending ∧
      (s.applyEvent (.setIrqLine b)).resetReq = s.resetReq ∧ (s.applyEvent (.setIrqLine b)).mem = s.mem) ∧
    (∀ b : Bool, (s.applyEvent (.setResetReq b)).resetReq = b ∧
      (s.applyEvent (.setResetReq b)).nmiPending = s.nmiPending ∧ (s.applyEvent (.setResetReq b)).irqLine = s.irqLine ∧
      (s.applyEvent (.setResetReq b)).mem = s.mem) ∧
    (∀ (w : Word) (v : Byte), KeepsInputs s (s.applyEvent (.writeMemory w v)) ∧
      (s.applyEvent (.writeMemory w v)).mem.read w.toNat = v ∧
      ∀ u : Word, u ≠ w → (s.applyEvent (.writeMemory w v)).mem.read u.toNat = s.mem.read u.toNat)

/-- A read-modify-write is atomic, and only in this sense (20_memory.md R36, R46): its read and its write of the one address
lie side by side at the end of one step's accesses, the environment's events all lie before that step, and the byte read is
the one memory holds at its start where an external agent does not answer. -/
def Obligations.ReadModifyWriteIsOneStep : Prop :=
  ∀ (es : List EnvEvent) (s s0 : State) (m : MemMode) (rest : List Byte), s0 = s.applyEvents es → NoEntry s0 →
    ∀ row ∈ rmwRows m, decode (fetchedBytes s0) = .ok (row.1, rest) →
      ∃ (t s1 : State) (r : Byte), stepAfter es s = .next t ∧ s1 = s0.advanced row.1 ∧
        t.accesses = (List.range row.1.length).map (fun k => .read (s0.pc + BitVec.ofNat 16 k)) ++ pointerReads m s1 ++
          [.read (effAddr m s1), .write (effAddr m s1) r] ∧
        r.toNat = row.2 (memOperand m s1) (s0.flag .C) ∧
        (s0.isIo (effAddr m s1) = false → memOperand m s1 = s0.mem.read (effAddr m s1).toNat) ∧
        t.mem.read (effAddr m s1).toNat = r ∧
        ∀ u : Word, u ≠ effAddr m s1 → t.mem.read u.toNat = s0.mem.read u.toNat
end

