-- ==== Sys2Proof/Laws/Bits.lean ====
section
/-! SUPPORT. Splitting a word into bytes and joining it again. -/

namespace Sys2Proof

@[simp] theorem highByte_wordOf (h l : Byte) : highByte (wordOf h l) = h := by
  ext i hi
  have h1 : 8 + i < 16 := by omega
  have h2 : i < 16 := by omega
  simp [wordOf, highByte, hi, h1, h2]

@[simp] theorem lowByte_wordOf (h l : Byte) : lowByte (wordOf h l) = l := by
  ext i hi
  simp [wordOf, lowByte]

@[simp] theorem wordOf_high_low (w : Word) : wordOf (highByte w) (lowByte w) = w := by
  ext i hi
  simp [wordOf, highByte, lowByte]
  by_cases h : i < 8 <;> simp [h]
  all_goals grind

end Sys2Proof
end

