-- ==== Sys2Proof/Laws/Decode.lean ====
section
/-! SUPPORT. What the opcode map holds at every byte: length, well-formedness, opcode byte and operand bytes of the entry. -/

namespace Sys2Proof

/-- The entry of opcode byte `n`: its length does not depend on the operand bytes, it is well formed, it encodes to `n`, and
its operand bytes are the first ones given. -/
def EntryGood (n : Nat) (f : Byte → Byte → Instr) : Prop :=
  ∀ b c, (f b c).length = (f 0 0).length ∧ (f b c).wf = true ∧ (f b c).opcode = some (BitVec.ofNat 8 n) ∧
    (f b c).operandBytes = [b, c].take ((f 0 0).length - 1)

/-- Every entry of a stretch of the map that begins at opcode byte `n`. -/
def RowGood : Nat → List (Byte → Byte → Instr) → Prop
  | _, [] => True
  | n, f :: fs => EntryGood n f ∧ RowGood (n + 1) fs

theorem RowGood.append {n m : Nat} {fs gs : List (Byte → Byte → Instr)} (h : RowGood n fs) (hl : n + fs.length = m)
    (k : RowGood m gs) : RowGood n (fs ++ gs) := by
  subst hl
  induction fs generalizing n with
  | nil => simpa using k
  | cons f fs ih =>
    refine ⟨h.1, ih h.2 ?_⟩
    simpa [Nat.add_assoc, Nat.add_comm 1] using k

theorem RowGood.getD {n k : Nat} {fs : List (Byte → Byte → Instr)} {d : Byte → Byte → Instr} (h : RowGood n fs)
    (hk : k < fs.length) : EntryGood (n + k) (fs.getD k d) := by
  induction fs generalizing n k with
  | nil => simp at hk
  | cons f fs ih =>
    cases k with
    | zero => exact h.1
    | succ k =>
      have := ih h.2 (k := k) (by simpa using hk)
      rwa [Nat.add_right_comm] at this

theorem opcodeRow0_good : RowGood 0 opcodeRow0 := by
  refine ⟨?_, ?_, ?_, ?_, ?_, ?_, ?_, ?_, ?_, ?_, ?_, ?_, ?_, ?_, ?_, ?_, trivial⟩ <;> intro b c <;>
    refine ⟨rfl, rfl, rfl, ?_⟩ <;> first | rfl | exact congrArg₂ (fun l h => [l, h]) (lowByte_wordOf c b) (highByte_wordOf c b)

theorem opcodeRow1_good : RowGood 16 opcodeRow1 := by
  refine ⟨?_, ?_, ?_, ?_, ?_, ?_, ?_, ?_, ?_, ?_, ?_, ?_, ?_, ?_, ?_, ?_, trivial⟩ <;> intro b c <;>
    refine ⟨rfl, rfl, rfl, ?_⟩ <;> first | rfl | exact congrArg₂ (fun l h => [l, h]) (lowByte_wordOf c b) (highByte_wordOf c b)

theorem opcodeRow2_good : RowGood 32 opcodeRow2 := by
  refine ⟨?_, ?_, ?_, ?_, ?_, ?_, ?_, ?_, ?_, ?_, ?_, ?_, ?_, ?_, ?_, ?_, trivial⟩ <;> intro b c <;>
    refine ⟨rfl, rfl, rfl, ?_⟩ <;> first | rfl | exact congrArg₂ (fun l h => [l, h]) (lowByte_wordOf c b) (highByte_wordOf c b)

theorem opcodeRow3_good : RowGood 48 opcodeRow3 := by
  refine ⟨?_, ?_, ?_, ?_, ?_, ?_, ?_, ?_, ?_, ?_, ?_, ?_, ?_, ?_, ?_, ?_, trivial⟩ <;> intro b c <;>
    refine ⟨rfl, rfl, rfl, ?_⟩ <;> first | rfl | exact congrArg₂ (fun l h => [l, h]) (lowByte_wordOf c b) (highByte_wordOf c b)

theorem opcodeRow4_good : RowGood 64 opcodeRow4 := by
  refine ⟨?_, ?_, ?_, ?_, ?_, ?_, ?_, ?_, ?_, ?_, ?_, ?_, ?_, ?_, ?_, ?_, trivial⟩ <;> intro b c <;>
    refine ⟨rfl, rfl, rfl, ?_⟩ <;> first | rfl | exact congrArg₂ (fun l h => [l, h]) (lowByte_wordOf c b) (highByte_wordOf c b)

theorem opcodeRow5_good : RowGood 80 opcodeRow5 := by
  refine ⟨?_, ?_, ?_, ?_, ?_, ?_, ?_, ?_, ?_, ?_, ?_, ?_, ?_, ?_, ?_, ?_, trivial⟩ <;> intro b c <;>
    refine ⟨rfl, rfl, rfl, ?_⟩ <;> first | rfl | exact congrArg₂ (fun l h => [l, h]) (lowByte_wordOf c b) (highByte_wordOf c b)

theorem opcodeRow6_good : RowGood 96 opcodeRow6 := by
  refine ⟨?_, ?_, ?_, ?_, ?_, ?_, ?_, ?_, ?_, ?_, ?_, ?_, ?_, ?_, ?_, ?_, trivial⟩ <;> intro b c <;>
    refine ⟨rfl, rfl, rfl, ?_⟩ <;> first | rfl | exact congrArg₂ (fun l h => [l, h]) (lowByte_wordOf c b) (highByte_wordOf c b)

theorem opcodeRow7_good : RowGood 112 opcodeRow7 := by
  refine ⟨?_, ?_, ?_, ?_, ?_, ?_, ?_, ?_, ?_, ?_, ?_, ?_, ?_, ?_, ?_, ?_, trivial⟩ <;> intro b c <;>
    refine ⟨rfl, rfl, rfl, ?_⟩ <;> first | rfl | exact congrArg₂ (fun l h => [l, h]) (lowByte_wordOf c b) (highByte_wordOf c b)

theorem opcodeRow8_good : RowGood 128 opcodeRow8 := by
  refine ⟨?_, ?_, ?_, ?_, ?_, ?_, ?_, ?_, ?_, ?_, ?_, ?_, ?_, ?_, ?_, ?_, trivial⟩ <;> intro b c <;>
    refine ⟨rfl, rfl, rfl, ?_⟩ <;> first | rfl | exact congrArg₂ (fun l h => [l, h]) (lowByte_wordOf c b) (highByte_wordOf c b)

theorem opcodeRow9_good : RowGood 144 opcodeRow9 := by
  refine ⟨?_, ?_, ?_, ?_, ?_, ?_, ?_, ?_, ?_, ?_, ?_, ?_, ?_, ?_, ?_, ?_, trivial⟩ <;> intro b c <;>
    refine ⟨rfl, rfl, rfl, ?_⟩ <;> first | rfl | exact congrArg₂ (fun l h => [l, h]) (lowByte_wordOf c b) (highByte_wordOf c b)

theorem opcodeRowA_good : RowGood 160 opcodeRowA := by
  refine ⟨?_, ?_, ?_, ?_, ?_, ?_, ?_, ?_, ?_, ?_, ?_, ?_, ?_, ?_, ?_, ?_, trivial⟩ <;> intro b c <;>
    refine ⟨rfl, rfl, rfl, ?_⟩ <;> first | rfl | exact congrArg₂ (fun l h => [l, h]) (lowByte_wordOf c b) (highByte_wordOf c b)

theorem opcodeRowB_good : RowGood 176 opcodeRowB := by
  refine ⟨?_, ?_, ?_, ?_, ?_, ?_, ?_, ?_, ?_, ?_, ?_, ?_, ?_, ?_, ?_, ?_, trivial⟩ <;> intro b c <;>
    refine ⟨rfl, rfl, rfl, ?_⟩ <;> first | rfl | exact congrArg₂ (fun l h => [l, h]) (lowByte_wordOf c b) (highByte_wordOf c b)

theorem opcodeRowC_good : RowGood 192 opcodeRowC := by
  refine ⟨?_, ?_, ?_, ?_, ?_, ?_, ?_, ?_, ?_, ?_, ?_, ?_, ?_, ?_, ?_, ?_, trivial⟩ <;> intro b c <;>
    refine ⟨rfl, rfl, rfl, ?_⟩ <;> first | rfl | exact congrArg₂ (fun l h => [l, h]) (lowByte_wordOf c b) (highByte_wordOf c b)

theorem opcodeRowD_good : RowGood 208 opcodeRowD := by
  refine ⟨?_, ?_, ?_, ?_, ?_, ?_, ?_, ?_, ?_, ?_, ?_, ?_, ?_, ?_, ?_, ?_, trivial⟩ <;> intro b c <;>
    refine ⟨rfl, rfl, rfl, ?_⟩ <;> first | rfl | exact congrArg₂ (fun l h => [l, h]) (lowByte_wordOf c b) (highByte_wordOf c b)

theorem opcodeRowE_good : RowGood 224 opcodeRowE := by
  refine ⟨?_, ?_, ?_, ?_, ?_, ?_, ?_, ?_, ?_, ?_, ?_, ?_, ?_, ?_, ?_, ?_, trivial⟩ <;> intro b c <;>
    refine ⟨rfl, rfl, rfl, ?_⟩ <;> first | rfl | exact congrArg₂ (fun l h => [l, h]) (lowByte_wordOf c b) (highByte_wordOf c b)

theorem opcodeRowF_good : RowGood 240 opcodeRowF := by
  refine ⟨?_, ?_, ?_, ?_, ?_, ?_, ?_, ?_, ?_, ?_, ?_, ?_, ?_, ?_, ?_, ?_, trivial⟩ <;> intro b c <;>
    refine ⟨rfl, rfl, rfl, ?_⟩ <;> first | rfl | exact congrArg₂ (fun l h => [l, h]) (lowByte_wordOf c b) (highByte_wordOf c b)

theorem opcodeMap_good : RowGood 0 opcodeMap := by
  simp only [opcodeMap, List.append_assoc]
  refine opcodeRow0_good.append rfl ?_
  refine opcodeRow1_good.append rfl ?_
  refine opcodeRow2_good.append rfl ?_
  refine opcodeRow3_good.append rfl ?_
  refine opcodeRow4_good.append rfl ?_
  refine opcodeRow5_good.append rfl ?_
  refine opcodeRow6_good.append rfl ?_
  refine opcodeRow7_good.append rfl ?_
  refine opcodeRow8_good.append rfl ?_
  refine opcodeRow9_good.append rfl ?_
  refine opcodeRowA_good.append rfl ?_
  refine opcodeRowB_good.append rfl ?_
  refine opcodeRowC_good.append rfl ?_
  refine opcodeRowD_good.append rfl ?_
  refine opcodeRowE_good.append rfl ?_
  exact opcodeRowF_good

theorem opcodeMap_length : opcodeMap.length = 256 := by
  simp only [opcodeMap, List.length_append]
  rfl

theorem instrOf_good (op b c : Byte) :
    (instrOf op b c).length = opcodeLength op ∧ (instrOf op b c).wf = true ∧ (instrOf op b c).opcode = some op ∧
      (instrOf op b c).operandBytes = [b, c].take (opcodeLength op - 1) := by
  have h := opcodeMap_good.getD (k := op.toNat) (d := fun _ _ => .unused op)
    (by rw [opcodeMap_length]; exact op.isLt) b c
  rw [Nat.zero_add, BitVec.ofNat_toNat, BitVec.setWidth_eq] at h
  exact h

/-- Lengths are 1, 2 or 3 (30_encoding.md R50). -/
theorem Instr.length_bounds (i : Instr) : 1 ≤ i.length ∧ i.length ≤ 3 := by
  unfold Instr.length
  cases i.mode <;> decide

theorem opcodeLength_bounds (op : Byte) : 1 ≤ opcodeLength op ∧ opcodeLength op ≤ 3 :=
  Instr.length_bounds _

theorem decode_one {op : Byte} (h : opcodeLength op = 1) (rest : List Byte) :
    decode (op :: rest) = .ok (instrOf op 0 0, rest) := by
  simp [decode, h]

theorem decode_two {op : Byte} (h : opcodeLength op = 2) (b : Byte) (rest : List Byte) :
    decode (op :: b :: rest) = .ok (instrOf op b 0, rest) := by
  simp [decode, h]

theorem decode_three {op : Byte} (h : opcodeLength op = 3) (b c : Byte) (rest : List Byte) :
    decode (op :: b :: c :: rest) = .ok (instrOf op b c, rest) := by
  simp [decode, h]

/-- Every base cycle count lies between 2 and 7 (30_encoding.md R56). -/
theorem baseCycles_bounds (op : Byte) : 2 ≤ baseCycles op ∧ baseCycles op ≤ 7 := by
  revert op; decide

end Sys2Proof
end

