-- ==== Sys2Proof/Laws/Flags.lean ====
section
/-! SUPPORT. A single-flag write changes that flag and nothing else (10_state.md R22). -/

namespace Sys2Proof.Machine

theorem getFlag_putFlag (p : Byte) (f g : Flag) (b : Bool) :
    getFlag (putFlag p f b) g = if g = f then b else getFlag p g := by
  cases b <;> cases f <;> cases g <;> simp [getFlag, putFlag, Flag.mask, Flag.pos]

@[simp] theorem getFlag_putFlag_same (p : Byte) (f : Flag) (b : Bool) : getFlag (putFlag p f b) f = b := by
  simp [getFlag_putFlag]

@[simp] theorem State.flag_setFlag (s : State) (f g : Flag) (b : Bool) :
    (s.setFlag f b).flag g = if g = f then b else s.flag g :=
  getFlag_putFlag s.p f g b

@[simp] theorem putFlag_bit_four (p : Byte) (f : Flag) (b : Bool) :
    (putFlag p f b)[4] = p[4] := by
  cases b <;> cases f <;> simp [putFlag, Flag.mask, Flag.pos]

@[simp] theorem putFlag_bit_five (p : Byte) (f : Flag) (b : Bool) :
    (putFlag p f b)[5] = p[5] := by
  cases b <;> cases f <;> simp [putFlag, Flag.mask, Flag.pos]

/-- Two bytes with the same six flags and the same fixed bits are equal. -/
theorem status_ext {p q : Byte} (hf : ∀ f, getFlag p f = getFlag q f) (h4 : p.getLsbD 4 = q.getLsbD 4)
    (h5 : p.getLsbD 5 = q.getLsbD 5) : p = q := by
  apply BitVec.eq_of_getLsbD_eq
  intro i hi
  have hC := hf .C
  have hZ := hf .Z
  have hI := hf .I
  have hD := hf .D
  have hV := hf .V
  have hN := hf .N
  simp only [getFlag, Flag.pos] at hC hZ hI hD hV hN
  interval_cases i <;> assumption

/-- The fixed bits of P read 1 exactly when bits 4 and 5 are 1 (R21). -/
theorem fixed_bits_iff (p : Byte) : p &&& 0x30 = 0x30 ↔ p.getLsbD 4 = true ∧ p.getLsbD 5 = true := by
  revert p; decide

theorem putFlag_fixed (p : Byte) (f : Flag) (b : Bool) (h : p &&& 0x30 = 0x30) : putFlag p f b &&& 0x30 = 0x30 := by
  rw [fixed_bits_iff] at h ⊢
  simpa using h

theorem statusFromStack_fixed (v : Byte) : statusFromStack v &&& 0x30 = 0x30 := by
  revert v; decide

/-- A pulled byte loads its six flags (R21). -/
@[simp] theorem getFlag_statusFromStack (v : Byte) (f : Flag) : getFlag (statusFromStack v) f = getFlag v f := by
  cases f <;> revert v <;> decide

@[simp] theorem getFlag_statusWithBreak (p : Byte) (f : Flag) : getFlag (statusWithBreak p) f = getFlag p f := by
  cases f <;> revert p <;> decide

@[simp] theorem getFlag_statusWithoutBreak (p : Byte) (f : Flag) :
    getFlag (statusWithoutBreak p) f = getFlag p f := by
  cases f <;> revert p <;> decide

end Sys2Proof.Machine
end

