-- ==== Sys2Proof/Laws/Memory.lean ====
section
/-! SUPPORT. The byte store: a read after a write, and that a write keeps the canonical form. -/

namespace Sys2Proof.Machine

theorem Memory.read_remove (m : Memory) (k j : Nat) :
    (m.remove k).read j = if j = k then Memory.unlisted else m.read j := by
  induction m with
  | nil => simp [Memory.remove, Memory.read]
  | cons c m ih =>
    obtain ⟨i, w⟩ := c
    by_cases h : k = i
    · subst h
      rw [Memory.remove, if_pos rfl, ih]
      by_cases hj : j = k <;> simp [Memory.read, hj]
    · by_cases hj : j = i
      · subst hj
        simp [Memory.remove, Memory.read, h, Ne.symm h]
      · simp [Memory.remove, Memory.read, h, hj, ih]

theorem Memory.read_insert (m : Memory) (k j : Nat) (v : Byte) :
    (m.insert k v).read j = if j = k then v else m.read j := by
  induction m with
  | nil => simp [Memory.insert, Memory.read]
  | cons c m ih =>
    obtain ⟨i, w⟩ := c
    by_cases hlt : k < i
    · simp [Memory.insert, Memory.read, hlt]
    · by_cases h : k = i
      · subst h
        by_cases hj : j = k <;> simp [Memory.insert, Memory.read, hj]
      · by_cases hj : j = i
        · subst hj
          simp [Memory.insert, Memory.read, hlt, h, Ne.symm h]
        · simp [Memory.insert, Memory.read, hlt, h, hj, ih]

/-- Everything a write does, as reads show it. -/
theorem Memory.read_write (m : Memory) (k j : Nat) (v : Byte) :
    (m.write k v).read j = if j = k then v else m.read j := by
  unfold Memory.write
  split
  · next h => rw [Memory.read_remove, h]
  · exact Memory.read_insert m k j v

@[simp] theorem Memory.read_write_same (m : Memory) (k : Nat) (v : Byte) : (m.write k v).read k = v := by
  simp [Memory.read_write]

theorem Memory.read_write_other (m : Memory) {k j : Nat} (v : Byte) (h : j ≠ k) :
    (m.write k v).read j = m.read j := by
  simp [Memory.read_write, h]

theorem Memory.risingFrom_remove (m : Memory) (lo k : Nat) (h : Memory.risingFrom lo m = true) :
    Memory.risingFrom lo (m.remove k) = true := by
  induction m generalizing lo with
  | nil => simpa [Memory.remove] using h
  | cons c m ih =>
    obtain ⟨i, w⟩ := c
    simp only [Memory.risingFrom, Bool.and_eq_true, decide_eq_true_eq] at h
    obtain ⟨⟨⟨h1, h2⟩, h3⟩, h4⟩ := h
    have weaken : ∀ (m : Memory) (a b : Nat), a ≤ b → Memory.risingFrom b m = true → Memory.risingFrom a m = true := by
      intro m a b hab hm
      cases m with
      | nil => rfl
      | cons d m =>
        simp only [Memory.risingFrom, Bool.and_eq_true, decide_eq_true_eq] at hm ⊢
        exact ⟨⟨⟨by omega, hm.1.1.2⟩, hm.1.2⟩, hm.2⟩
    by_cases hk : k = i
    · rw [Memory.remove, if_pos hk]
      exact weaken _ _ _ (by omega) (ih _ h4)
    · rw [Memory.remove, if_neg hk]
      simp only [Memory.risingFrom, Bool.and_eq_true, decide_eq_true_eq]
      exact ⟨⟨⟨h1, h2⟩, h3⟩, ih _ h4⟩

theorem Memory.risingFrom_insert (m : Memory) (lo k : Nat) (v : Byte) (hlo : lo ≤ k) (hk : k < 65536)
    (hv : v ≠ Memory.unlisted) (h : Memory.risingFrom lo m = true) : Memory.risingFrom lo (m.insert k v) = true := by
  induction m generalizing lo with
  | nil => simp [Memory.insert, Memory.risingFrom, hlo, hk, hv]
  | cons c m ih =>
    obtain ⟨i, w⟩ := c
    simp only [Memory.risingFrom, Bool.and_eq_true, decide_eq_true_eq, bne_iff_ne] at h
    obtain ⟨⟨⟨h1, h2⟩, h3⟩, h4⟩ := h
    by_cases hlt : k < i
    · simp [Memory.insert, Memory.risingFrom, hlt, hlo, hk, hv, h2, h3, h4, Nat.succ_le_of_lt hlt]
    · by_cases he : k = i
      · subst he
        simp [Memory.insert, Memory.risingFrom, hlo, hk, hv, h4]
      · simp [Memory.insert, Memory.risingFrom, hlt, he, h1, h2, h3, ih (i + 1) (by omega) h4]

/-- Every memory operation keeps the canonical form. -/
theorem Memory.write_wf (m : Memory) (k : Nat) (v : Byte) (hk : k < 65536) (h : m.wf = true) :
    (m.write k v).wf = true := by
  unfold Memory.write
  split
  · exact Memory.risingFrom_remove m 0 k h
  · next hv => exact Memory.risingFrom_insert m 0 k v (Nat.zero_le k) hk hv h

end Sys2Proof.Machine
end

