-- ==== Sys2Proof/Laws/State.lean ====
section
/-! SUPPORT. One lemma per field of State per update, each true by unfolding. -/

namespace Sys2Proof.Machine

section updates

variable (s : State)

@[simp] theorem State.setA_a (v : Byte) : (s.setA v).a = v := rfl
@[simp] theorem State.setA_x (v : Byte) : (s.setA v).x = s.x := rfl
@[simp] theorem State.setA_y (v : Byte) : (s.setA v).y = s.y := rfl
@[simp] theorem State.setA_sp (v : Byte) : (s.setA v).sp = s.sp := rfl
@[simp] theorem State.setA_p (v : Byte) : (s.setA v).p = s.p := rfl
@[simp] theorem State.setA_pc (v : Byte) : (s.setA v).pc = s.pc := rfl
@[simp] theorem State.setA_nmiPending (v : Byte) : (s.setA v).nmiPending = s.nmiPending := rfl
@[simp] theorem State.setA_irqLine (v : Byte) : (s.setA v).irqLine = s.irqLine := rfl
@[simp] theorem State.setA_resetReq (v : Byte) : (s.setA v).resetReq = s.resetReq := rfl
@[simp] theorem State.setA_mem (v : Byte) : (s.setA v).mem = s.mem := rfl
@[simp] theorem State.setA_ioRegions (v : Byte) : (s.setA v).ioRegions = s.ioRegions := rfl
@[simp] theorem State.setA_ioReads (v : Byte) : (s.setA v).ioReads = s.ioReads := rfl
@[simp] theorem State.setA_accesses (v : Byte) : (s.setA v).accesses = s.accesses := rfl
@[simp] theorem State.setA_cycles (v : Byte) : (s.setA v).cycles = s.cycles := rfl
@[simp] theorem State.setA_isIo (v : Byte) (w : Word) : (s.setA v).isIo w = s.isIo w := rfl

@[simp] theorem State.setX_a (v : Byte) : (s.setX v).a = s.a := rfl
@[simp] theorem State.setX_x (v : Byte) : (s.setX v).x = v := rfl
@[simp] theorem State.setX_y (v : Byte) : (s.setX v).y = s.y := rfl
@[simp] theorem State.setX_sp (v : Byte) : (s.setX v).sp = s.sp := rfl
@[simp] theorem State.setX_p (v : Byte) : (s.setX v).p = s.p := rfl
@[simp] theorem State.setX_pc (v : Byte) : (s.setX v).pc = s.pc := rfl
@[simp] theorem State.setX_nmiPending (v : Byte) : (s.setX v).nmiPending = s.nmiPending := rfl
@[simp] theorem State.setX_irqLine (v : Byte) : (s.setX v).irqLine = s.irqLine := rfl
@[simp] theorem State.setX_resetReq (v : Byte) : (s.setX v).resetReq = s.resetReq := rfl
@[simp] theorem State.setX_mem (v : Byte) : (s.setX v).mem = s.mem := rfl
@[simp] theorem State.setX_ioRegions (v : Byte) : (s.setX v).ioRegions = s.ioRegions := rfl
@[simp] theorem State.setX_ioReads (v : Byte) : (s.setX v).ioReads = s.ioReads := rfl
@[simp] theorem State.setX_accesses (v : Byte) : (s.setX v).accesses = s.accesses := rfl
@[simp] theorem State.setX_cycles (v : Byte) : (s.setX v).cycles = s.cycles := rfl
@[simp] theorem State.setX_isIo (v : Byte) (w : Word) : (s.setX v).isIo w = s.isIo w := rfl

@[simp] theorem State.setY_a (v : Byte) : (s.setY v).a = s.a := rfl
@[simp] theorem State.setY_x (v : Byte) : (s.setY v).x = s.x := rfl
@[simp] theorem State.setY_y (v : Byte) : (s.setY v).y = v := rfl
@[simp] theorem State.setY_sp (v : Byte) : (s.setY v).sp = s.sp := rfl
@[simp] theorem State.setY_p (v : Byte) : (s.setY v).p = s.p := rfl
@[simp] theorem State.setY_pc (v : Byte) : (s.setY v).pc = s.pc := rfl
@[simp] theorem State.setY_nmiPending (v : Byte) : (s.setY v).nmiPending = s.nmiPending := rfl
@[simp] theorem State.setY_irqLine (v : Byte) : (s.setY v).irqLine = s.irqLine := rfl
@[simp] theorem State.setY_resetReq (v : Byte) : (s.setY v).resetReq = s.resetReq := rfl
@[simp] theorem State.setY_mem (v : Byte) : (s.setY v).mem = s.mem := rfl
@[simp] theorem State.setY_ioRegions (v : Byte) : (s.setY v).ioRegions = s.ioRegions := rfl
@[simp] theorem State.setY_ioReads (v : Byte) : (s.setY v).ioReads = s.ioReads := rfl
@[simp] theorem State.setY_accesses (v : Byte) : (s.setY v).accesses = s.accesses := rfl
@[simp] theorem State.setY_cycles (v : Byte) : (s.setY v).cycles = s.cycles := rfl
@[simp] theorem State.setY_isIo (v : Byte) (w : Word) : (s.setY v).isIo w = s.isIo w := rfl

@[simp] theorem State.setSp_a (v : Byte) : (s.setSp v).a = s.a := rfl
@[simp] theorem State.setSp_x (v : Byte) : (s.setSp v).x = s.x := rfl
@[simp] theorem State.setSp_y (v : Byte) : (s.setSp v).y = s.y := rfl
@[simp] theorem State.setSp_sp (v : Byte) : (s.setSp v).sp = v := rfl
@[simp] theorem State.setSp_p (v : Byte) : (s.setSp v).p = s.p := rfl
@[simp] theorem State.setSp_pc (v : Byte) : (s.setSp v).pc = s.pc := rfl
@[simp] theorem State.setSp_nmiPending (v : Byte) : (s.setSp v).nmiPending = s.nmiPending := rfl
@[simp] theorem State.setSp_irqLine (v : Byte) : (s.setSp v).irqLine = s.irqLine := rfl
@[simp] theorem State.setSp_resetReq (v : Byte) : (s.setSp v).resetReq = s.resetReq := rfl
@[simp] theorem State.setSp_mem (v : Byte) : (s.setSp v).mem = s.mem := rfl
@[simp] theorem State.setSp_ioRegions (v : Byte) : (s.setSp v).ioRegions = s.ioRegions := rfl
@[simp] theorem State.setSp_ioReads (v : Byte) : (s.setSp v).ioReads = s.ioReads := rfl
@[simp] theorem State.setSp_accesses (v : Byte) : (s.setSp v).accesses = s.accesses := rfl
@[simp] theorem State.setSp_cycles (v : Byte) : (s.setSp v).cycles = s.cycles := rfl
@[simp] theorem State.setSp_isIo (v : Byte) (w : Word) : (s.setSp v).isIo w = s.isIo w := rfl

@[simp] theorem State.setP_a (v : Byte) : (s.setP v).a = s.a := rfl
@[simp] theorem State.setP_x (v : Byte) : (s.setP v).x = s.x := rfl
@[simp] theorem State.setP_y (v : Byte) : (s.setP v).y = s.y := rfl
@[simp] theorem State.setP_sp (v : Byte) : (s.setP v).sp = s.sp := rfl
@[simp] theorem State.setP_p (v : Byte) : (s.setP v).p = v := rfl
@[simp] theorem State.setP_pc (v : Byte) : (s.setP v).pc = s.pc := rfl
@[simp] theorem State.setP_nmiPending (v : Byte) : (s.setP v).nmiPending = s.nmiPending := rfl
@[simp] theorem State.setP_irqLine (v : Byte) : (s.setP v).irqLine = s.irqLine := rfl
@[simp] theorem State.setP_resetReq (v : Byte) : (s.setP v).resetReq = s.resetReq := rfl
@[simp] theorem State.setP_mem (v : Byte) : (s.setP v).mem = s.mem := rfl
@[simp] theorem State.setP_ioRegions (v : Byte) : (s.setP v).ioRegions = s.ioRegions := rfl
@[simp] theorem State.setP_ioReads (v : Byte) : (s.setP v).ioReads = s.ioReads := rfl
@[simp] theorem State.setP_accesses (v : Byte) : (s.setP v).accesses = s.accesses := rfl
@[simp] theorem State.setP_cycles (v : Byte) : (s.setP v).cycles = s.cycles := rfl
@[simp] theorem State.setP_isIo (v : Byte) (w : Word) : (s.setP v).isIo w = s.isIo w := rfl

@[simp] theorem State.setPc_a (v : Word) : (s.setPc v).a = s.a := rfl
@[simp] theorem State.setPc_x (v : Word) : (s.setPc v).x = s.x := rfl
@[simp] theorem State.setPc_y (v : Word) : (s.setPc v).y = s.y := rfl
@[simp] theorem State.setPc_sp (v : Word) : (s.setPc v).sp = s.sp := rfl
@[simp] theorem State.setPc_p (v : Word) : (s.setPc v).p = s.p := rfl
@[simp] theorem State.setPc_pc (v : Word) : (s.setPc v).pc = v := rfl
@[simp] theorem State.setPc_nmiPending (v : Word) : (s.setPc v).nmiPending = s.nmiPending := rfl
@[simp] theorem State.setPc_irqLine (v : Word) : (s.setPc v).irqLine = s.irqLine := rfl
@[simp] theorem State.setPc_resetReq (v : Word) : (s.setPc v).resetReq = s.resetReq := rfl
@[simp] theorem State.setPc_mem (v : Word) : (s.setPc v).mem = s.mem := rfl
@[simp] theorem State.setPc_ioRegions (v : Word) : (s.setPc v).ioRegions = s.ioRegions := rfl
@[simp] theorem State.setPc_ioReads (v : Word) : (s.setPc v).ioReads = s.ioReads := rfl
@[simp] theorem State.setPc_accesses (v : Word) : (s.setPc v).accesses = s.accesses := rfl
@[simp] theorem State.setPc_cycles (v : Word) : (s.setPc v).cycles = s.cycles := rfl
@[simp] theorem State.setPc_isIo (v : Word) (w : Word) : (s.setPc v).isIo w = s.isIo w := rfl

@[simp] theorem State.addCycles_a (v : Nat) : (s.addCycles v).a = s.a := rfl
@[simp] theorem State.addCycles_x (v : Nat) : (s.addCycles v).x = s.x := rfl
@[simp] theorem State.addCycles_y (v : Nat) : (s.addCycles v).y = s.y := rfl
@[simp] theorem State.addCycles_sp (v : Nat) : (s.addCycles v).sp = s.sp := rfl
@[simp] theorem State.addCycles_p (v : Nat) : (s.addCycles v).p = s.p := rfl
@[simp] theorem State.addCycles_pc (v : Nat) : (s.addCycles v).pc = s.pc := rfl
@[simp] theorem State.addCycles_nmiPending (v : Nat) : (s.addCycles v).nmiPending = s.nmiPending := rfl
@[simp] theorem State.addCycles_irqLine (v : Nat) : (s.addCycles v).irqLine = s.irqLine := rfl
@[simp] theorem State.addCycles_resetReq (v : Nat) : (s.addCycles v).resetReq = s.resetReq := rfl
@[simp] theorem State.addCycles_mem (v : Nat) : (s.addCycles v).mem = s.mem := rfl
@[simp] theorem State.addCycles_ioRegions (v : Nat) : (s.addCycles v).ioRegions = s.ioRegions := rfl
@[simp] theorem State.addCycles_ioReads (v : Nat) : (s.addCycles v).ioReads = s.ioReads := rfl
@[simp] theorem State.addCycles_accesses (v : Nat) : (s.addCycles v).accesses = s.accesses := rfl
@[simp] theorem State.addCycles_cycles (v : Nat) : (s.addCycles v).cycles = s.cycles + v := rfl
@[simp] theorem State.addCycles_isIo (v : Nat) (w : Word) : (s.addCycles v).isIo w = s.isIo w := rfl

@[simp] theorem State.setFlag_a (f : Flag) (b : Bool) : (s.setFlag f b).a = s.a := rfl
@[simp] theorem State.setFlag_x (f : Flag) (b : Bool) : (s.setFlag f b).x = s.x := rfl
@[simp] theorem State.setFlag_y (f : Flag) (b : Bool) : (s.setFlag f b).y = s.y := rfl
@[simp] theorem State.setFlag_sp (f : Flag) (b : Bool) : (s.setFlag f b).sp = s.sp := rfl
@[simp] theorem State.setFlag_p (f : Flag) (b : Bool) : (s.setFlag f b).p = putFlag s.p f b := rfl
@[simp] theorem State.setFlag_pc (f : Flag) (b : Bool) : (s.setFlag f b).pc = s.pc := rfl
@[simp] theorem State.setFlag_nmiPending (f : Flag) (b : Bool) : (s.setFlag f b).nmiPending = s.nmiPending := rfl
@[simp] theorem State.setFlag_irqLine (f : Flag) (b : Bool) : (s.setFlag f b).irqLine = s.irqLine := rfl
@[simp] theorem State.setFlag_resetReq (f : Flag) (b : Bool) : (s.setFlag f b).resetReq = s.resetReq := rfl
@[simp] theorem State.setFlag_mem (f : Flag) (b : Bool) : (s.setFlag f b).mem = s.mem := rfl
@[simp] theorem State.setFlag_ioRegions (f : Flag) (b : Bool) : (s.setFlag f b).ioRegions = s.ioRegions := rfl
@[simp] theorem State.setFlag_ioReads (f : Flag) (b : Bool) : (s.setFlag f b).ioReads = s.ioReads := rfl
@[simp] theorem State.setFlag_accesses (f : Flag) (b : Bool) : (s.setFlag f b).accesses = s.accesses := rfl
@[simp] theorem State.setFlag_cycles (f : Flag) (b : Bool) : (s.setFlag f b).cycles = s.cycles := rfl
@[simp] theorem State.setFlag_isIo (f : Flag) (b : Bool) (w : Word) : (s.setFlag f b).isIo w = s.isIo w := rfl

@[simp] theorem State.setZN_a (v : Byte) : (s.setZN v).a = s.a := rfl
@[simp] theorem State.setZN_x (v : Byte) : (s.setZN v).x = s.x := rfl
@[simp] theorem State.setZN_y (v : Byte) : (s.setZN v).y = s.y := rfl
@[simp] theorem State.setZN_sp (v : Byte) : (s.setZN v).sp = s.sp := rfl
@[simp] theorem State.setZN_p (v : Byte) : (s.setZN v).p = putFlag (putFlag s.p .Z (decide (v = 0))) .N (v.getLsbD 7) := rfl
@[simp] theorem State.setZN_pc (v : Byte) : (s.setZN v).pc = s.pc := rfl
@[simp] theorem State.setZN_nmiPending (v : Byte) : (s.setZN v).nmiPending = s.nmiPending := rfl
@[simp] theorem State.setZN_irqLine (v : Byte) : (s.setZN v).irqLine = s.irqLine := rfl
@[simp] theorem State.setZN_resetReq (v : Byte) : (s.setZN v).resetReq = s.resetReq := rfl
@[simp] theorem State.setZN_mem (v : Byte) : (s.setZN v).mem = s.mem := rfl
@[simp] theorem State.setZN_ioRegions (v : Byte) : (s.setZN v).ioRegions = s.ioRegions := rfl
@[simp] theorem State.setZN_ioReads (v : Byte) : (s.setZN v).ioReads = s.ioReads := rfl
@[simp] theorem State.setZN_accesses (v : Byte) : (s.setZN v).accesses = s.accesses := rfl
@[simp] theorem State.setZN_cycles (v : Byte) : (s.setZN v).cycles = s.cycles := rfl
@[simp] theorem State.setZN_isIo (v : Byte) (w : Word) : (s.setZN v).isIo w = s.isIo w := rfl

@[simp] theorem State.noteRead_a (v : Word) : (s.noteRead v).a = s.a := rfl
@[simp] theorem State.noteRead_x (v : Word) : (s.noteRead v).x = s.x := rfl
@[simp] theorem State.noteRead_y (v : Word) : (s.noteRead v).y = s.y := rfl
@[simp] theorem State.noteRead_sp (v : Word) : (s.noteRead v).sp = s.sp := rfl
@[simp] theorem State.noteRead_p (v : Word) : (s.noteRead v).p = s.p := rfl
@[simp] theorem State.noteRead_pc (v : Word) : (s.noteRead v).pc = s.pc := rfl
@[simp] theorem State.noteRead_nmiPending (v : Word) : (s.noteRead v).nmiPending = s.nmiPending := rfl
@[simp] theorem State.noteRead_irqLine (v : Word) : (s.noteRead v).irqLine = s.irqLine := rfl
@[simp] theorem State.noteRead_resetReq (v : Word) : (s.noteRead v).resetReq = s.resetReq := rfl
@[simp] theorem State.noteRead_mem (v : Word) : (s.noteRead v).mem = s.mem := rfl
@[simp] theorem State.noteRead_ioRegions (v : Word) : (s.noteRead v).ioRegions = s.ioRegions := rfl
@[simp] theorem State.noteRead_ioReads (v : Word) : (s.noteRead v).ioReads = if s.isIo v then s.ioReads + 1 else s.ioReads := rfl
@[simp] theorem State.noteRead_accesses (v : Word) : (s.noteRead v).accesses = s.accesses ++ [.read v] := rfl
@[simp] theorem State.noteRead_cycles (v : Word) : (s.noteRead v).cycles = s.cycles := rfl
@[simp] theorem State.noteRead_isIo (v : Word) (w : Word) : (s.noteRead v).isIo w = s.isIo w := rfl

@[simp] theorem memWrite_a (w : Word) (v : Byte) : (memWrite w v s).a = s.a := rfl
@[simp] theorem memWrite_x (w : Word) (v : Byte) : (memWrite w v s).x = s.x := rfl
@[simp] theorem memWrite_y (w : Word) (v : Byte) : (memWrite w v s).y = s.y := rfl
@[simp] theorem memWrite_sp (w : Word) (v : Byte) : (memWrite w v s).sp = s.sp := rfl
@[simp] theorem memWrite_p (w : Word) (v : Byte) : (memWrite w v s).p = s.p := rfl
@[simp] theorem memWrite_pc (w : Word) (v : Byte) : (memWrite w v s).pc = s.pc := rfl
@[simp] theorem memWrite_nmiPending (w : Word) (v : Byte) : (memWrite w v s).nmiPending = s.nmiPending := rfl
@[simp] theorem memWrite_irqLine (w : Word) (v : Byte) : (memWrite w v s).irqLine = s.irqLine := rfl
@[simp] theorem memWrite_resetReq (w : Word) (v : Byte) : (memWrite w v s).resetReq = s.resetReq := rfl
@[simp] theorem memWrite_mem (w : Word) (v : Byte) : (memWrite w v s).mem = s.mem.write w.toNat v := rfl
@[simp] theorem memWrite_ioRegions (w : Word) (v : Byte) : (memWrite w v s).ioRegions = s.ioRegions := rfl
@[simp] theorem memWrite_ioReads (w : Word) (v : Byte) : (memWrite w v s).ioReads = s.ioReads := rfl
@[simp] theorem memWrite_accesses (w : Word) (v : Byte) : (memWrite w v s).accesses = s.accesses ++ [.write w v] := rfl
@[simp] theorem memWrite_cycles (w : Word) (v : Byte) : (memWrite w v s).cycles = s.cycles := rfl
@[simp] theorem memWrite_isIo (w : Word) (v : Byte) (u : Word) : (memWrite w v s).isIo u = s.isIo u := rfl

@[simp] theorem memRead_fst (w : Word) : (memRead w s).1 = s.busAnswer w := rfl
@[simp] theorem memRead_snd (w : Word) : (memRead w s).2 = s.noteRead w := rfl

@[simp] theorem State.beginStep_a : s.beginStep.a = s.a := rfl
@[simp] theorem State.beginStep_x : s.beginStep.x = s.x := rfl
@[simp] theorem State.beginStep_y : s.beginStep.y = s.y := rfl
@[simp] theorem State.beginStep_sp : s.beginStep.sp = s.sp := rfl
@[simp] theorem State.beginStep_p : s.beginStep.p = s.p := rfl
@[simp] theorem State.beginStep_pc : s.beginStep.pc = s.pc := rfl
@[simp] theorem State.beginStep_nmiPending : s.beginStep.nmiPending = s.nmiPending := rfl
@[simp] theorem State.beginStep_irqLine : s.beginStep.irqLine = s.irqLine := rfl
@[simp] theorem State.beginStep_resetReq : s.beginStep.resetReq = s.resetReq := rfl
@[simp] theorem State.beginStep_mem : s.beginStep.mem = s.mem := rfl
@[simp] theorem State.beginStep_ioRegions : s.beginStep.ioRegions = s.ioRegions := rfl
@[simp] theorem State.beginStep_ioReads : s.beginStep.ioReads = s.ioReads := rfl
@[simp] theorem State.beginStep_accesses : s.beginStep.accesses = ([] : List BusAccess) := rfl
@[simp] theorem State.beginStep_cycles : s.beginStep.cycles = 0 := rfl
@[simp] theorem State.beginStep_isIo (w : Word) : s.beginStep.isIo w = s.isIo w := rfl

@[simp] theorem State.clearNmi_a : s.clearNmi.a = s.a := rfl
@[simp] theorem State.clearNmi_x : s.clearNmi.x = s.x := rfl
@[simp] theorem State.clearNmi_y : s.clearNmi.y = s.y := rfl
@[simp] theorem State.clearNmi_sp : s.clearNmi.sp = s.sp := rfl
@[simp] theorem State.clearNmi_p : s.clearNmi.p = s.p := rfl
@[simp] theorem State.clearNmi_pc : s.clearNmi.pc = s.pc := rfl
@[simp] theorem State.clearNmi_nmiPending : s.clearNmi.nmiPending = false := rfl
@[simp] theorem State.clearNmi_irqLine : s.clearNmi.irqLine = s.irqLine := rfl
@[simp] theorem State.clearNmi_resetReq : s.clearNmi.resetReq = s.resetReq := rfl
@[simp] theorem State.clearNmi_mem : s.clearNmi.mem = s.mem := rfl
@[simp] theorem State.clearNmi_ioRegions : s.clearNmi.ioRegions = s.ioRegions := rfl
@[simp] theorem State.clearNmi_ioReads : s.clearNmi.ioReads = s.ioReads := rfl
@[simp] theorem State.clearNmi_accesses : s.clearNmi.accesses = s.accesses := rfl
@[simp] theorem State.clearNmi_cycles : s.clearNmi.cycles = s.cycles := rfl
@[simp] theorem State.clearNmi_isIo (w : Word) : s.clearNmi.isIo w = s.isIo w := rfl

@[simp] theorem State.powerOnRegisters_a : s.powerOnRegisters.a = Config.resetA := rfl
@[simp] theorem State.powerOnRegisters_x : s.powerOnRegisters.x = Config.resetX := rfl
@[simp] theorem State.powerOnRegisters_y : s.powerOnRegisters.y = Config.resetY := rfl
@[simp] theorem State.powerOnRegisters_sp : s.powerOnRegisters.sp = Config.resetSp := rfl
@[simp] theorem State.powerOnRegisters_p : s.powerOnRegisters.p = Config.resetP ||| 0x30#8 := rfl
@[simp] theorem State.powerOnRegisters_pc : s.powerOnRegisters.pc = s.pc := rfl
@[simp] theorem State.powerOnRegisters_nmiPending : s.powerOnRegisters.nmiPending = false := rfl
@[simp] theorem State.powerOnRegisters_irqLine : s.powerOnRegisters.irqLine = s.irqLine := rfl
@[simp] theorem State.powerOnRegisters_resetReq : s.powerOnRegisters.resetReq = s.resetReq := rfl
@[simp] theorem State.powerOnRegisters_mem : s.powerOnRegisters.mem = s.mem := rfl
@[simp] theorem State.powerOnRegisters_ioRegions : s.powerOnRegisters.ioRegions = s.ioRegions := rfl
@[simp] theorem State.powerOnRegisters_ioReads : s.powerOnRegisters.ioReads = s.ioReads := rfl
@[simp] theorem State.powerOnRegisters_accesses : s.powerOnRegisters.accesses = s.accesses := rfl
@[simp] theorem State.powerOnRegisters_cycles : s.powerOnRegisters.cycles = s.cycles := rfl
@[simp] theorem State.powerOnRegisters_isIo (w : Word) : s.powerOnRegisters.isIo w = s.isIo w := rfl

end updates

end Sys2Proof.Machine
end

