-- ==== Sys2Proof/Laws/Ops.lean ====
section
/-! SUPPORT. What each shared operation of Machine/Ops.lean and Machine/Operands.lean does, said once. -/

namespace Sys2Proof.Machine

/-! ### Reading and storing a byte at a word address -/

theorem Memory.read_write_word (m : Memory) (u w : Word) (v : Byte) :
    (m.write u.toNat v).read w.toNat = if w = u then v else m.read w.toNat := by
  rw [Memory.read_write]
  simp only [BitVec.toNat_inj]

theorem State.busAnswer_plain {s : State} {w : Word} (h : s.isIo w = false) :
    s.busAnswer w = s.mem.read w.toNat := by
  simp [State.busAnswer, h]

theorem State.busAnswer_io {s : State} {w : Word} (h : s.isIo w = true) :
    s.busAnswer w = Config.ioRead s.ioReads w := by
  simp [State.busAnswer, h]

theorem memWrite_wf (w : Word) (v : Byte) {s : State} (h : s.mem.wf = true) : (memWrite w v s).mem.wf = true :=
  Memory.write_wf _ _ _ w.isLt h

/-! ### The stack (10_state.md R13, R15, R16) -/

theorem stackAddr_toNat (sp : Byte) : (stackAddr sp).toNat = 256 + sp.toNat := by
  have := sp.isLt
  simp only [stackAddr, Config.stackBase, zext16, BitVec.toNat_add, BitVec.toNat_setWidth]
  change (256 + sp.toNat % 65536) % 65536 = _
  omega

@[simp] theorem stackAddr_inj (u v : Byte) : stackAddr u = stackAddr v ↔ u = v := by
  rw [← BitVec.toNat_inj, stackAddr_toNat, stackAddr_toNat, ← BitVec.toNat_inj]
  omega

section operations

variable (s : State)

@[simp] theorem push_a (v : Byte) : (push v s).a = s.a := by simp [push]
@[simp] theorem push_x (v : Byte) : (push v s).x = s.x := by simp [push]
@[simp] theorem push_y (v : Byte) : (push v s).y = s.y := by simp [push]
@[simp] theorem push_sp (v : Byte) : (push v s).sp = s.sp - 1#8 := by simp [push]
@[simp] theorem push_p (v : Byte) : (push v s).p = s.p := by simp [push]
@[simp] theorem push_pc (v : Byte) : (push v s).pc = s.pc := by simp [push]
@[simp] theorem push_nmiPending (v : Byte) : (push v s).nmiPending = s.nmiPending := by simp [push]
@[simp] theorem push_irqLine (v : Byte) : (push v s).irqLine = s.irqLine := by simp [push]
@[simp] theorem push_resetReq (v : Byte) : (push v s).resetReq = s.resetReq := by simp [push]
@[simp] theorem push_mem (v : Byte) : (push v s).mem = s.mem.write (stackAddr s.sp).toNat v := by simp [push]
@[simp] theorem push_ioRegions (v : Byte) : (push v s).ioRegions = s.ioRegions := by simp [push]
@[simp] theorem push_isIo (v : Byte) (u : Word) : (push v s).isIo u = s.isIo u := by simp [push]

@[simp] theorem pull_a  : ((pull s).2).a = s.a := by simp [pull]
@[simp] theorem pull_x  : ((pull s).2).x = s.x := by simp [pull]
@[simp] theorem pull_y  : ((pull s).2).y = s.y := by simp [pull]
@[simp] theorem pull_sp  : ((pull s).2).sp = s.sp + 1#8 := by simp [pull]
@[simp] theorem pull_p  : ((pull s).2).p = s.p := by simp [pull]
@[simp] theorem pull_pc  : ((pull s).2).pc = s.pc := by simp [pull]
@[simp] theorem pull_nmiPending  : ((pull s).2).nmiPending = s.nmiPending := by simp [pull]
@[simp] theorem pull_irqLine  : ((pull s).2).irqLine = s.irqLine := by simp [pull]
@[simp] theorem pull_resetReq  : ((pull s).2).resetReq = s.resetReq := by simp [pull]
@[simp] theorem pull_mem  : ((pull s).2).mem = s.mem := by simp [pull]
@[simp] theorem pull_ioRegions  : ((pull s).2).ioRegions = s.ioRegions := by simp [pull]
@[simp] theorem pull_isIo  (u : Word) : ((pull s).2).isIo u = s.isIo u := by simp [pull]

@[simp] theorem pull_fst : (pull s).1 = (s.setSp (s.sp + 1#8)).busAnswer (stackAddr (s.sp + 1#8)) := rfl

@[simp] theorem read16_a (w : Word) : ((read16 w s).2).a = s.a := by simp [read16]
@[simp] theorem read16_x (w : Word) : ((read16 w s).2).x = s.x := by simp [read16]
@[simp] theorem read16_y (w : Word) : ((read16 w s).2).y = s.y := by simp [read16]
@[simp] theorem read16_sp (w : Word) : ((read16 w s).2).sp = s.sp := by simp [read16]
@[simp] theorem read16_p (w : Word) : ((read16 w s).2).p = s.p := by simp [read16]
@[simp] theorem read16_pc (w : Word) : ((read16 w s).2).pc = s.pc := by simp [read16]
@[simp] theorem read16_nmiPending (w : Word) : ((read16 w s).2).nmiPending = s.nmiPending := by simp [read16]
@[simp] theorem read16_irqLine (w : Word) : ((read16 w s).2).irqLine = s.irqLine := by simp [read16]
@[simp] theorem read16_resetReq (w : Word) : ((read16 w s).2).resetReq = s.resetReq := by simp [read16]
@[simp] theorem read16_mem (w : Word) : ((read16 w s).2).mem = s.mem := by simp [read16]
@[simp] theorem read16_ioRegions (w : Word) : ((read16 w s).2).ioRegions = s.ioRegions := by simp [read16]
@[simp] theorem read16_isIo (w : Word) (u : Word) : ((read16 w s).2).isIo u = s.isIo u := by simp [read16]

@[simp] theorem read16zp_a (b : Byte) : ((read16zp b s).2).a = s.a := by simp [read16zp]
@[simp] theorem read16zp_x (b : Byte) : ((read16zp b s).2).x = s.x := by simp [read16zp]
@[simp] theorem read16zp_y (b : Byte) : ((read16zp b s).2).y = s.y := by simp [read16zp]
@[simp] theorem read16zp_sp (b : Byte) : ((read16zp b s).2).sp = s.sp := by simp [read16zp]
@[simp] theorem read16zp_p (b : Byte) : ((read16zp b s).2).p = s.p := by simp [read16zp]
@[simp] theorem read16zp_pc (b : Byte) : ((read16zp b s).2).pc = s.pc := by simp [read16zp]
@[simp] theorem read16zp_nmiPending (b : Byte) : ((read16zp b s).2).nmiPending = s.nmiPending := by simp [read16zp]
@[simp] theorem read16zp_irqLine (b : Byte) : ((read16zp b s).2).irqLine = s.irqLine := by simp [read16zp]
@[simp] theorem read16zp_resetReq (b : Byte) : ((read16zp b s).2).resetReq = s.resetReq := by simp [read16zp]
@[simp] theorem read16zp_mem (b : Byte) : ((read16zp b s).2).mem = s.mem := by simp [read16zp]
@[simp] theorem read16zp_ioRegions (b : Byte) : ((read16zp b s).2).ioRegions = s.ioRegions := by simp [read16zp]
@[simp] theorem read16zp_isIo (b : Byte) (u : Word) : ((read16zp b s).2).isIo u = s.isIo u := by simp [read16zp]

@[simp] theorem resolve_a (m : MemMode) : ((resolve m s).2).a = s.a := by cases m <;> simp [resolve]
@[simp] theorem resolve_x (m : MemMode) : ((resolve m s).2).x = s.x := by cases m <;> simp [resolve]
@[simp] theorem resolve_y (m : MemMode) : ((resolve m s).2).y = s.y := by cases m <;> simp [resolve]
@[simp] theorem resolve_sp (m : MemMode) : ((resolve m s).2).sp = s.sp := by cases m <;> simp [resolve]
@[simp] theorem resolve_p (m : MemMode) : ((resolve m s).2).p = s.p := by cases m <;> simp [resolve]
@[simp] theorem resolve_pc (m : MemMode) : ((resolve m s).2).pc = s.pc := by cases m <;> simp [resolve]
@[simp] theorem resolve_nmiPending (m : MemMode) : ((resolve m s).2).nmiPending = s.nmiPending := by cases m <;> simp [resolve]
@[simp] theorem resolve_irqLine (m : MemMode) : ((resolve m s).2).irqLine = s.irqLine := by cases m <;> simp [resolve]
@[simp] theorem resolve_resetReq (m : MemMode) : ((resolve m s).2).resetReq = s.resetReq := by cases m <;> simp [resolve]
@[simp] theorem resolve_mem (m : MemMode) : ((resolve m s).2).mem = s.mem := by cases m <;> simp [resolve]
@[simp] theorem resolve_ioRegions (m : MemMode) : ((resolve m s).2).ioRegions = s.ioRegions := by cases m <;> simp [resolve]
@[simp] theorem resolve_isIo (m : MemMode) (u : Word) : ((resolve m s).2).isIo u = s.isIo u := by cases m <;> simp [resolve]

@[simp] theorem readMem_a (m : MemMode) : ((readMem m s).2).a = s.a := by simp [readMem]
@[simp] theorem readMem_x (m : MemMode) : ((readMem m s).2).x = s.x := by simp [readMem]
@[simp] theorem readMem_y (m : MemMode) : ((readMem m s).2).y = s.y := by simp [readMem]
@[simp] theorem readMem_sp (m : MemMode) : ((readMem m s).2).sp = s.sp := by simp [readMem]
@[simp] theorem readMem_p (m : MemMode) : ((readMem m s).2).p = s.p := by simp [readMem]
@[simp] theorem readMem_pc (m : MemMode) : ((readMem m s).2).pc = s.pc := by simp [readMem]
@[simp] theorem readMem_nmiPending (m : MemMode) : ((readMem m s).2).nmiPending = s.nmiPending := by simp [readMem]
@[simp] theorem readMem_irqLine (m : MemMode) : ((readMem m s).2).irqLine = s.irqLine := by simp [readMem]
@[simp] theorem readMem_resetReq (m : MemMode) : ((readMem m s).2).resetReq = s.resetReq := by simp [readMem]
@[simp] theorem readMem_mem (m : MemMode) : ((readMem m s).2).mem = s.mem := by simp [readMem]
@[simp] theorem readMem_ioRegions (m : MemMode) : ((readMem m s).2).ioRegions = s.ioRegions := by simp [readMem]
@[simp] theorem readMem_isIo (m : MemMode) (u : Word) : ((readMem m s).2).isIo u = s.isIo u := by simp [readMem]

@[simp] theorem readSource_a (src : Source) : ((readSource src s).2).a = s.a := by cases src <;> simp [readSource]
@[simp] theorem readSource_x (src : Source) : ((readSource src s).2).x = s.x := by cases src <;> simp [readSource]
@[simp] theorem readSource_y (src : Source) : ((readSource src s).2).y = s.y := by cases src <;> simp [readSource]
@[simp] theorem readSource_sp (src : Source) : ((readSource src s).2).sp = s.sp := by cases src <;> simp [readSource]
@[simp] theorem readSource_p (src : Source) : ((readSource src s).2).p = s.p := by cases src <;> simp [readSource]
@[simp] theorem readSource_pc (src : Source) : ((readSource src s).2).pc = s.pc := by cases src <;> simp [readSource]
@[simp] theorem readSource_nmiPending (src : Source) : ((readSource src s).2).nmiPending = s.nmiPending := by cases src <;> simp [readSource]
@[simp] theorem readSource_irqLine (src : Source) : ((readSource src s).2).irqLine = s.irqLine := by cases src <;> simp [readSource]
@[simp] theorem readSource_resetReq (src : Source) : ((readSource src s).2).resetReq = s.resetReq := by cases src <;> simp [readSource]
@[simp] theorem readSource_mem (src : Source) : ((readSource src s).2).mem = s.mem := by cases src <;> simp [readSource]
@[simp] theorem readSource_ioRegions (src : Source) : ((readSource src s).2).ioRegions = s.ioRegions := by cases src <;> simp [readSource]
@[simp] theorem readSource_isIo (src : Source) (u : Word) : ((readSource src s).2).isIo u = s.isIo u := by cases src <;> simp [readSource]

@[simp] theorem pushWord_a (w : Word) : (pushWord w s).a = s.a := by simp [pushWord]
@[simp] theorem pushWord_x (w : Word) : (pushWord w s).x = s.x := by simp [pushWord]
@[simp] theorem pushWord_y (w : Word) : (pushWord w s).y = s.y := by simp [pushWord]
@[simp] theorem pushWord_sp (w : Word) : (pushWord w s).sp = s.sp - 1#8 - 1#8 := by simp [pushWord]
@[simp] theorem pushWord_p (w : Word) : (pushWord w s).p = s.p := by simp [pushWord]
@[simp] theorem pushWord_pc (w : Word) : (pushWord w s).pc = s.pc := by simp [pushWord]
@[simp] theorem pushWord_nmiPending (w : Word) : (pushWord w s).nmiPending = s.nmiPending := by simp [pushWord]
@[simp] theorem pushWord_irqLine (w : Word) : (pushWord w s).irqLine = s.irqLine := by simp [pushWord]
@[simp] theorem pushWord_resetReq (w : Word) : (pushWord w s).resetReq = s.resetReq := by simp [pushWord]
@[simp] theorem pushWord_mem (w : Word) : (pushWord w s).mem = (s.mem.write (stackAddr s.sp).toNat (highByte w)).write (stackAddr (s.sp - 1#8)).toNat (lowByte w) := by simp [pushWord]
@[simp] theorem pushWord_ioRegions (w : Word) : (pushWord w s).ioRegions = s.ioRegions := by simp [pushWord]
@[simp] theorem pushWord_isIo (w : Word) (u : Word) : (pushWord w s).isIo u = s.isIo u := by simp [pushWord]

@[simp] theorem pullWord_a  : ((pullWord s).2).a = s.a := by simp [pullWord]
@[simp] theorem pullWord_x  : ((pullWord s).2).x = s.x := by simp [pullWord]
@[simp] theorem pullWord_y  : ((pullWord s).2).y = s.y := by simp [pullWord]
@[simp] theorem pullWord_sp  : ((pullWord s).2).sp = s.sp + 1#8 + 1#8 := by simp [pullWord]
@[simp] theorem pullWord_p  : ((pullWord s).2).p = s.p := by simp [pullWord]
@[simp] theorem pullWord_pc  : ((pullWord s).2).pc = s.pc := by simp [pullWord]
@[simp] theorem pullWord_nmiPending  : ((pullWord s).2).nmiPending = s.nmiPending := by simp [pullWord]
@[simp] theorem pullWord_irqLine  : ((pullWord s).2).irqLine = s.irqLine := by simp [pullWord]
@[simp] theorem pullWord_resetReq  : ((pullWord s).2).resetReq = s.resetReq := by simp [pullWord]
@[simp] theorem pullWord_mem  : ((pullWord s).2).mem = s.mem := by simp [pullWord]
@[simp] theorem pullWord_ioRegions  : ((pullWord s).2).ioRegions = s.ioRegions := by simp [pullWord]
@[simp] theorem pullWord_isIo  (u : Word) : ((pullWord s).2).isIo u = s.isIo u := by simp [pullWord]

@[simp] theorem storeTo_a (m : MemMode) (v : Byte) : (storeTo m v s).a = s.a := by simp [storeTo]
@[simp] theorem storeTo_x (m : MemMode) (v : Byte) : (storeTo m v s).x = s.x := by simp [storeTo]
@[simp] theorem storeTo_y (m : MemMode) (v : Byte) : (storeTo m v s).y = s.y := by simp [storeTo]
@[simp] theorem storeTo_sp (m : MemMode) (v : Byte) : (storeTo m v s).sp = s.sp := by simp [storeTo]
@[simp] theorem storeTo_p (m : MemMode) (v : Byte) : (storeTo m v s).p = s.p := by simp [storeTo]
@[simp] theorem storeTo_pc (m : MemMode) (v : Byte) : (storeTo m v s).pc = s.pc := by simp [storeTo]
@[simp] theorem storeTo_nmiPending (m : MemMode) (v : Byte) : (storeTo m v s).nmiPending = s.nmiPending := by simp [storeTo]
@[simp] theorem storeTo_irqLine (m : MemMode) (v : Byte) : (storeTo m v s).irqLine = s.irqLine := by simp [storeTo]
@[simp] theorem storeTo_resetReq (m : MemMode) (v : Byte) : (storeTo m v s).resetReq = s.resetReq := by simp [storeTo]
@[simp] theorem storeTo_mem (m : MemMode) (v : Byte) : (storeTo m v s).mem = s.mem.write (effAddr m s).toNat v := by simp [storeTo, effAddr]
@[simp] theorem storeTo_ioRegions (m : MemMode) (v : Byte) : (storeTo m v s).ioRegions = s.ioRegions := by simp [storeTo]
@[simp] theorem storeTo_isIo (m : MemMode) (v : Byte) (u : Word) : (storeTo m v s).isIo u = s.isIo u := by simp [storeTo]

/-- The byte a read-modify-write reads (20_memory.md R37): the answer of the bus once the pointer bytes are read. -/
theorem updateMem_fst (m : MemMode) (f : Byte → Byte) :
    (updateMem m f s).1 = (resolve m s).2.busAnswer (effAddr m s) := rfl

@[simp] theorem updateMem_a (m : MemMode) (f : Byte → Byte) : ((updateMem m f s).2).a = s.a := by simp [updateMem]
@[simp] theorem updateMem_x (m : MemMode) (f : Byte → Byte) : ((updateMem m f s).2).x = s.x := by simp [updateMem]
@[simp] theorem updateMem_y (m : MemMode) (f : Byte → Byte) : ((updateMem m f s).2).y = s.y := by simp [updateMem]
@[simp] theorem updateMem_sp (m : MemMode) (f : Byte → Byte) : ((updateMem m f s).2).sp = s.sp := by simp [updateMem]
@[simp] theorem updateMem_p (m : MemMode) (f : Byte → Byte) : ((updateMem m f s).2).p = s.p := by simp [updateMem]
@[simp] theorem updateMem_pc (m : MemMode) (f : Byte → Byte) : ((updateMem m f s).2).pc = s.pc := by simp [updateMem]
@[simp] theorem updateMem_nmiPending (m : MemMode) (f : Byte → Byte) : ((updateMem m f s).2).nmiPending = s.nmiPending := by simp [updateMem]
@[simp] theorem updateMem_irqLine (m : MemMode) (f : Byte → Byte) : ((updateMem m f s).2).irqLine = s.irqLine := by simp [updateMem]
@[simp] theorem updateMem_resetReq (m : MemMode) (f : Byte → Byte) : ((updateMem m f s).2).resetReq = s.resetReq := by simp [updateMem]
@[simp] theorem updateMem_mem (m : MemMode) (f : Byte → Byte) : ((updateMem m f s).2).mem = s.mem.write (effAddr m s).toNat (f (updateMem m f s).1) := by simp [updateMem, effAddr]
@[simp] theorem updateMem_ioRegions (m : MemMode) (f : Byte → Byte) : ((updateMem m f s).2).ioRegions = s.ioRegions := by simp [updateMem]
@[simp] theorem updateMem_isIo (m : MemMode) (f : Byte → Byte) (u : Word) : ((updateMem m f s).2).isIo u = s.isIo u := by simp [updateMem]

@[simp] theorem updatePlace_a (pl : Place) (f : Byte → Byte) : ((updatePlace pl f s).2).a = (match pl with | .acc => f s.a | .mem _ => s.a) := by cases pl <;> simp [updatePlace]
@[simp] theorem updatePlace_x (pl : Place) (f : Byte → Byte) : ((updatePlace pl f s).2).x = s.x := by cases pl <;> simp [updatePlace]
@[simp] theorem updatePlace_y (pl : Place) (f : Byte → Byte) : ((updatePlace pl f s).2).y = s.y := by cases pl <;> simp [updatePlace]
@[simp] theorem updatePlace_sp (pl : Place) (f : Byte → Byte) : ((updatePlace pl f s).2).sp = s.sp := by cases pl <;> simp [updatePlace]
@[simp] theorem updatePlace_p (pl : Place) (f : Byte → Byte) : ((updatePlace pl f s).2).p = s.p := by cases pl <;> simp [updatePlace]
@[simp] theorem updatePlace_pc (pl : Place) (f : Byte → Byte) : ((updatePlace pl f s).2).pc = s.pc := by cases pl <;> simp [updatePlace]
@[simp] theorem updatePlace_nmiPending (pl : Place) (f : Byte → Byte) : ((updatePlace pl f s).2).nmiPending = s.nmiPending := by cases pl <;> simp [updatePlace]
@[simp] theorem updatePlace_irqLine (pl : Place) (f : Byte → Byte) : ((updatePlace pl f s).2).irqLine = s.irqLine := by cases pl <;> simp [updatePlace]
@[simp] theorem updatePlace_resetReq (pl : Place) (f : Byte → Byte) : ((updatePlace pl f s).2).resetReq = s.resetReq := by cases pl <;> simp [updatePlace]
@[simp] theorem updatePlace_mem (pl : Place) (f : Byte → Byte) : ((updatePlace pl f s).2).mem = (match pl with | .acc => s.mem | .mem m => s.mem.write (effAddr m s).toNat (f (updateMem m f s).1)) := by cases pl <;> simp [updatePlace]
@[simp] theorem updatePlace_ioRegions (pl : Place) (f : Byte → Byte) : ((updatePlace pl f s).2).ioRegions = s.ioRegions := by cases pl <;> simp [updatePlace]
@[simp] theorem updatePlace_isIo (pl : Place) (f : Byte → Byte) (u : Word) : ((updatePlace pl f s).2).isIo u = s.isIo u := by cases pl <;> simp [updatePlace]

@[simp] theorem jumpTarget_a (t : Target) : ((jumpTarget t s).2).a = s.a := by cases t <;> simp [jumpTarget]
@[simp] theorem jumpTarget_x (t : Target) : ((jumpTarget t s).2).x = s.x := by cases t <;> simp [jumpTarget]
@[simp] theorem jumpTarget_y (t : Target) : ((jumpTarget t s).2).y = s.y := by cases t <;> simp [jumpTarget]
@[simp] theorem jumpTarget_sp (t : Target) : ((jumpTarget t s).2).sp = s.sp := by cases t <;> simp [jumpTarget]
@[simp] theorem jumpTarget_p (t : Target) : ((jumpTarget t s).2).p = s.p := by cases t <;> simp [jumpTarget]
@[simp] theorem jumpTarget_pc (t : Target) : ((jumpTarget t s).2).pc = s.pc := by cases t <;> simp [jumpTarget]
@[simp] theorem jumpTarget_nmiPending (t : Target) : ((jumpTarget t s).2).nmiPending = s.nmiPending := by cases t <;> simp [jumpTarget]
@[simp] theorem jumpTarget_irqLine (t : Target) : ((jumpTarget t s).2).irqLine = s.irqLine := by cases t <;> simp [jumpTarget]
@[simp] theorem jumpTarget_resetReq (t : Target) : ((jumpTarget t s).2).resetReq = s.resetReq := by cases t <;> simp [jumpTarget]
@[simp] theorem jumpTarget_mem (t : Target) : ((jumpTarget t s).2).mem = s.mem := by cases t <;> simp [jumpTarget]
@[simp] theorem jumpTarget_ioRegions (t : Target) : ((jumpTarget t s).2).ioRegions = s.ioRegions := by cases t <;> simp [jumpTarget]
@[simp] theorem jumpTarget_isIo (t : Target) (u : Word) : ((jumpTarget t s).2).isIo u = s.isIo u := by cases t <;> simp [jumpTarget]

end operations

/-! ### Operand values in plain memory -/

/-- `Read16` of plain memory is the little-endian word stored there (20_memory.md R34). -/
theorem read16_plain {s : State} {w : Word} (h0 : s.isIo w = false) (h1 : s.isIo (w + 1#16) = false) :
    (read16 w s).1 = wordOf (s.mem.read (w + 1#16).toNat) (s.mem.read w.toNat) := by
  simp only [read16, memRead_fst, memRead_snd, State.busAnswer_plain h0, State.noteRead_mem,
    State.busAnswer_plain (s := s.noteRead w) h1]

/-- `Read16zp` of plain memory takes both bytes from page 0. -/
theorem read16zp_plain {s : State} {b : Byte} (h0 : s.isIo (zext16 b) = false) (h1 : s.isIo (zext16 (b + 1#8)) = false) :
    (read16zp b s).1 = wordOf (s.mem.read (zext16 (b + 1#8)).toNat) (s.mem.read (zext16 b).toNat) := by
  simp only [read16zp, memRead_fst, memRead_snd, State.busAnswer_plain h0, State.noteRead_mem,
    State.busAnswer_plain (s := s.noteRead (zext16 b)) h1]

/-! ### Taking an exception (60_exceptions.md R205) and returning from one (R192) -/

section entries

variable (s : State)

@[simp] theorem interruptSequence_a (k : InterruptKind) (ret : Word) : (interruptSequence k ret s).a = s.a := by simp [interruptSequence]
@[simp] theorem interruptSequence_x (k : InterruptKind) (ret : Word) : (interruptSequence k ret s).x = s.x := by simp [interruptSequence]
@[simp] theorem interruptSequence_y (k : InterruptKind) (ret : Word) : (interruptSequence k ret s).y = s.y := by simp [interruptSequence]
@[simp] theorem interruptSequence_sp (k : InterruptKind) (ret : Word) : (interruptSequence k ret s).sp = s.sp - 1#8 - 1#8 - 1#8 := by simp [interruptSequence]
@[simp] theorem interruptSequence_p (k : InterruptKind) (ret : Word) : (interruptSequence k ret s).p = putFlag s.p .I true := by simp [interruptSequence]
@[simp] theorem interruptSequence_pc (k : InterruptKind) (ret : Word) : (interruptSequence k ret s).pc = (read16 k.vector ((push (k.pushedStatus s.p) (pushWord ret s)).setFlag .I true)).1 := by simp [interruptSequence]
@[simp] theorem interruptSequence_nmiPending (k : InterruptKind) (ret : Word) : (interruptSequence k ret s).nmiPending = s.nmiPending := by simp [interruptSequence]
@[simp] theorem interruptSequence_irqLine (k : InterruptKind) (ret : Word) : (interruptSequence k ret s).irqLine = s.irqLine := by simp [interruptSequence]
@[simp] theorem interruptSequence_resetReq (k : InterruptKind) (ret : Word) : (interruptSequence k ret s).resetReq = s.resetReq := by simp [interruptSequence]
@[simp] theorem interruptSequence_mem (k : InterruptKind) (ret : Word) : (interruptSequence k ret s).mem = ((s.mem.write (stackAddr s.sp).toNat (highByte ret)).write (stackAddr (s.sp - 1#8)).toNat (lowByte ret)).write (stackAddr (s.sp - 1#8 - 1#8)).toNat (k.pushedStatus s.p) := by simp [interruptSequence]
@[simp] theorem interruptSequence_ioRegions (k : InterruptKind) (ret : Word) : (interruptSequence k ret s).ioRegions = s.ioRegions := by simp [interruptSequence]
@[simp] theorem interruptSequence_isIo (k : InterruptKind) (ret : Word) (u : Word) : (interruptSequence k ret s).isIo u = s.isIo u := by simp [interruptSequence]

@[simp] theorem warmReset_a  : (warmReset s).a = s.a := by simp [warmReset]
@[simp] theorem warmReset_x  : (warmReset s).x = s.x := by simp [warmReset]
@[simp] theorem warmReset_y  : (warmReset s).y = s.y := by simp [warmReset]
@[simp] theorem warmReset_sp  : (warmReset s).sp = s.sp - 3#8 := by simp [warmReset]
@[simp] theorem warmReset_p  : (warmReset s).p = putFlag s.p .I true := by simp [warmReset]
@[simp] theorem warmReset_pc  : (warmReset s).pc = (read16 Config.vecReset ((s.setSp (s.sp - 3#8)).setFlag .I true).clearNmi).1 := by simp [warmReset]
@[simp] theorem warmReset_nmiPending  : (warmReset s).nmiPending = false := by simp [warmReset]
@[simp] theorem warmReset_irqLine  : (warmReset s).irqLine = s.irqLine := by simp [warmReset]
@[simp] theorem warmReset_resetReq  : (warmReset s).resetReq = s.resetReq := by simp [warmReset]
@[simp] theorem warmReset_mem  : (warmReset s).mem = s.mem := by simp [warmReset]
@[simp] theorem warmReset_ioRegions  : (warmReset s).ioRegions = s.ioRegions := by simp [warmReset]
@[simp] theorem warmReset_isIo  (u : Word) : (warmReset s).isIo u = s.isIo u := by simp [warmReset]

@[simp] theorem coldReset_a  : (coldReset s).a = Config.resetA := by simp [coldReset]
@[simp] theorem coldReset_x  : (coldReset s).x = Config.resetX := by simp [coldReset]
@[simp] theorem coldReset_y  : (coldReset s).y = Config.resetY := by simp [coldReset]
@[simp] theorem coldReset_sp  : (coldReset s).sp = Config.resetSp := by simp [coldReset]
@[simp] theorem coldReset_p  : (coldReset s).p = (Config.resetP ||| 0x30#8) := by simp [coldReset]
@[simp] theorem coldReset_nmiPending  : (coldReset s).nmiPending = false := by simp [coldReset]
@[simp] theorem coldReset_irqLine  : (coldReset s).irqLine = s.irqLine := by simp [coldReset]
@[simp] theorem coldReset_resetReq  : (coldReset s).resetReq = s.resetReq := by simp [coldReset]
@[simp] theorem coldReset_mem  : (coldReset s).mem = s.mem := by simp [coldReset]
@[simp] theorem coldReset_ioRegions  : (coldReset s).ioRegions = s.ioRegions := by simp [coldReset]
@[simp] theorem coldReset_isIo  (u : Word) : (coldReset s).isIo u = s.isIo u := by simp [coldReset]

@[simp] theorem returnFromInterrupt_a  : (returnFromInterrupt s).a = s.a := by simp [returnFromInterrupt]
@[simp] theorem returnFromInterrupt_x  : (returnFromInterrupt s).x = s.x := by simp [returnFromInterrupt]
@[simp] theorem returnFromInterrupt_y  : (returnFromInterrupt s).y = s.y := by simp [returnFromInterrupt]
@[simp] theorem returnFromInterrupt_sp  : (returnFromInterrupt s).sp = s.sp + 1#8 + 1#8 + 1#8 := by simp [returnFromInterrupt]
@[simp] theorem returnFromInterrupt_p  : (returnFromInterrupt s).p = statusFromStack (pull s).1 := by simp [returnFromInterrupt]
@[simp] theorem returnFromInterrupt_pc  : (returnFromInterrupt s).pc = (pullWord ((pull s).2.setP (statusFromStack (pull s).1))).1 := by simp [returnFromInterrupt]
@[simp] theorem returnFromInterrupt_nmiPending  : (returnFromInterrupt s).nmiPending = s.nmiPending := by simp [returnFromInterrupt]
@[simp] theorem returnFromInterrupt_irqLine  : (returnFromInterrupt s).irqLine = s.irqLine := by simp [returnFromInterrupt]
@[simp] theorem returnFromInterrupt_resetReq  : (returnFromInterrupt s).resetReq = s.resetReq := by simp [returnFromInterrupt]
@[simp] theorem returnFromInterrupt_mem  : (returnFromInterrupt s).mem = s.mem := by simp [returnFromInterrupt]
@[simp] theorem returnFromInterrupt_ioRegions  : (returnFromInterrupt s).ioRegions = s.ioRegions := by simp [returnFromInterrupt]
@[simp] theorem returnFromInterrupt_isIo  (u : Word) : (returnFromInterrupt s).isIo u = s.isIo u := by simp [returnFromInterrupt]

end entries

end Sys2Proof.Machine
end

