-- ==== Sys2Proof/Laws/Operands.lean ====
section
/-! SUPPORT. What the operand forms read, in the terms the statements use, and how a frame is shown field by field. -/

namespace Sys2Proof.Machine

variable (s : State)

theorem getFlag_p (f : Flag) : getFlag s.p f = s.flag f := rfl

@[simp] theorem addCycles_busAnswer (n : Nat) (w : Word) : (s.addCycles n).busAnswer w = s.busAnswer w := rfl
@[simp] theorem setPc_busAnswer (v w : Word) : (s.setPc v).busAnswer w = s.busAnswer w := rfl
@[simp] theorem setSp_busAnswer (v : Byte) (w : Word) : (s.setSp v).busAnswer w = s.busAnswer w := rfl
@[simp] theorem setP_busAnswer (v : Byte) (w : Word) : (s.setP v).busAnswer w = s.busAnswer w := rfl
@[simp] theorem setA_busAnswer (v : Byte) (w : Word) : (s.setA v).busAnswer w = s.busAnswer w := rfl
@[simp] theorem setFlag_busAnswer (f : Flag) (b : Bool) (w : Word) : (s.setFlag f b).busAnswer w = s.busAnswer w := rfl
@[simp] theorem clearNmi_busAnswer (w : Word) : s.clearNmi.busAnswer w = s.busAnswer w := rfl
@[simp] theorem beginStep_busAnswer (w : Word) : s.beginStep.busAnswer w = s.busAnswer w := rfl
@[simp] theorem powerOnRegisters_busAnswer (w : Word) : s.powerOnRegisters.busAnswer w = s.busAnswer w := rfl

/-- The bus answers alike in two states with the same memory, map and count of I/O reads. -/
theorem busAnswer_congr {s t : State} (w : Word) (hm : t.mem.read w.toNat = s.mem.read w.toNat)
    (hio : t.ioRegions = s.ioRegions) (hn : t.ioReads = s.ioReads) : t.busAnswer w = s.busAnswer w := by
  simp [State.busAnswer, State.isIo, hm, hio, hn]

theorem resolve_accesses (m : MemMode) : (resolve m s).2.accesses = s.accesses ++ pointerReads m s := by
  cases m <;> simp [resolve, pointerReads, read16zp]

theorem resolve_cycles (m : MemMode) : (resolve m s).2.cycles = s.cycles := by
  cases m <;> simp [resolve, read16zp]

theorem readMem_fst (m : MemMode) : (readMem m s).1 = memOperand m s := by
  simp [readMem, memOperand, effAddr]

theorem readSource_fst (src : Source) : (readSource src s).1 = operand src s := by
  cases src <;> simp [readSource, operand, readMem_fst]

theorem readSource_accesses (src : Source) : (readSource src s).2.accesses = s.accesses ++ operandReads src s := by
  cases src <;> simp [readSource, operandReads, readMem, effAddr, resolve_accesses]

theorem readSource_cycles (src : Source) : (readSource src s).2.cycles = s.cycles + operandPenalty src s := by
  cases src <;> simp [readSource, operandPenalty, readMem, resolve_cycles]

theorem storeTo_accesses (m : MemMode) (v : Byte) :
    (storeTo m v s).accesses = s.accesses ++ pointerReads m s ++ [.write (effAddr m s) v] := by
  simp [storeTo, effAddr, resolve_accesses]

theorem storeTo_cycles (m : MemMode) (v : Byte) : (storeTo m v s).cycles = s.cycles := by
  simp [storeTo, resolve_cycles]

theorem updateMem_old (m : MemMode) (f : Byte → Byte) : (updateMem m f s).1 = memOperand m s := rfl

theorem updateMem_accesses (m : MemMode) (f : Byte → Byte) :
    (updateMem m f s).2.accesses =
      s.accesses ++ pointerReads m s ++ [.read (effAddr m s), .write (effAddr m s) (f (memOperand m s))] := by
  simp [updateMem, memOperand, effAddr, resolve_accesses]

theorem updateMem_cycles (m : MemMode) (f : Byte → Byte) : (updateMem m f s).2.cycles = s.cycles := by
  simp [updateMem, resolve_cycles]

/-- A frame, field by field. -/
theorem Frame.of_fields {regs : List Reg} {flags : List Flag} {stored : List Word} {s t : State}
    (ha : Reg.A ∉ regs → t.a = s.a) (hx : Reg.X ∉ regs → t.x = s.x) (hy : Reg.Y ∉ regs → t.y = s.y)
    (hsp : Reg.SP ∉ regs → t.sp = s.sp) (hf : ∀ f, f ∉ flags → getFlag t.p f = getFlag s.p f)
    (h4 : t.p[4] = s.p[4]) (h5 : t.p[5] = s.p[5])
    (hm : ∀ addr : Word, addr ∉ stored → t.mem.read addr.toNat = s.mem.read addr.toNat)
    (hn : t.nmiPending = s.nmiPending) (hi : t.irqLine = s.irqLine) (hr : t.resetReq = s.resetReq)
    (hio : t.ioRegions = s.ioRegions) : Frame regs flags stored s t where
  registers := by
    intro r h
    cases r
    · exact ha h
    · exact hx h
    · exact hy h
    · exact hsp h
  other_flags := hf
  bit_four := by simpa using h4
  bit_five := by simpa using h5
  memory := hm
  inputs := ⟨hn, hi, hr, hio⟩

end Sys2Proof.Machine
end

