-- ==== Sys2Proof/Laws/Step.lean ====
section
/-! SUPPORT. What fetching an instruction and taking an entry change, and the two ways a step goes. -/

namespace Sys2Proof.Machine

section fetching

variable (s : State)

@[simp] theorem fetch_a : (fetch s).2.a = s.a := by
  unfold fetch; dsimp only; split <;> split <;> rfl
@[simp] theorem fetch_x : (fetch s).2.x = s.x := by
  unfold fetch; dsimp only; split <;> split <;> rfl
@[simp] theorem fetch_y : (fetch s).2.y = s.y := by
  unfold fetch; dsimp only; split <;> split <;> rfl
@[simp] theorem fetch_sp : (fetch s).2.sp = s.sp := by
  unfold fetch; dsimp only; split <;> split <;> rfl
@[simp] theorem fetch_p : (fetch s).2.p = s.p := by
  unfold fetch; dsimp only; split <;> split <;> rfl
@[simp] theorem fetch_nmiPending : (fetch s).2.nmiPending = s.nmiPending := by
  unfold fetch; dsimp only; split <;> split <;> rfl
@[simp] theorem fetch_irqLine : (fetch s).2.irqLine = s.irqLine := by
  unfold fetch; dsimp only; split <;> split <;> rfl
@[simp] theorem fetch_resetReq : (fetch s).2.resetReq = s.resetReq := by
  unfold fetch; dsimp only; split <;> split <;> rfl
@[simp] theorem fetch_mem : (fetch s).2.mem = s.mem := by
  unfold fetch; dsimp only; split <;> split <;> rfl
@[simp] theorem fetch_ioRegions : (fetch s).2.ioRegions = s.ioRegions := by
  unfold fetch; dsimp only; split <;> split <;> rfl
@[simp] theorem fetch_pc : (fetch s).2.pc = s.pc + BitVec.ofNat 16 (opcodeLength (s.busAnswer s.pc)) := by
  unfold fetch; dsimp only; split <;> split <;> rfl
@[simp] theorem fetch_cycles : (fetch s).2.cycles = s.cycles + baseCycles (s.busAnswer s.pc) := by
  unfold fetch; dsimp only; split <;> split <;> rfl

/-- What is fetched is an entry of the opcode map at the byte the bus answers with at PC. -/
theorem fetch_instr : ∃ b c, (fetch s).1 = instrOf (s.busAnswer s.pc) b c :=
  ⟨_, _, rfl⟩

end fetching

/-! ### Steps that take an entry -/

section entrySteps

variable (k : InterruptKind) (s : State)

@[simp] theorem entryStep_a : (entryStep k s).a = (raiseInterrupt k s.beginStep).a := by
  unfold entryStep; rw [State.addCycles_a]
@[simp] theorem entryStep_x : (entryStep k s).x = (raiseInterrupt k s.beginStep).x := by
  unfold entryStep; rw [State.addCycles_x]
@[simp] theorem entryStep_y : (entryStep k s).y = (raiseInterrupt k s.beginStep).y := by
  unfold entryStep; rw [State.addCycles_y]
@[simp] theorem entryStep_sp : (entryStep k s).sp = (raiseInterrupt k s.beginStep).sp := by
  unfold entryStep; rw [State.addCycles_sp]
@[simp] theorem entryStep_p : (entryStep k s).p = (raiseInterrupt k s.beginStep).p := by
  unfold entryStep; rw [State.addCycles_p]
@[simp] theorem entryStep_pc : (entryStep k s).pc = (raiseInterrupt k s.beginStep).pc := by
  unfold entryStep; rw [State.addCycles_pc]
@[simp] theorem entryStep_nmiPending : (entryStep k s).nmiPending = (raiseInterrupt k s.beginStep).nmiPending := by
  unfold entryStep; rw [State.addCycles_nmiPending]
@[simp] theorem entryStep_irqLine : (entryStep k s).irqLine = (raiseInterrupt k s.beginStep).irqLine := by
  unfold entryStep; rw [State.addCycles_irqLine]
@[simp] theorem entryStep_resetReq : (entryStep k s).resetReq = (raiseInterrupt k s.beginStep).resetReq := by
  unfold entryStep; rw [State.addCycles_resetReq]
@[simp] theorem entryStep_mem : (entryStep k s).mem = (raiseInterrupt k s.beginStep).mem := by
  unfold entryStep; rw [State.addCycles_mem]
@[simp] theorem entryStep_ioRegions : (entryStep k s).ioRegions = (raiseInterrupt k s.beginStep).ioRegions := by
  unfold entryStep; rw [State.addCycles_ioRegions]

theorem step_of_recognise {k : InterruptKind} {s : State} (h : recognise s = some k) : step s = .next (entryStep k s) := by
  unfold step; rw [h]

theorem step_of_no_entry {s : State} (h : recognise s = none) :
    step s = exec (fetch s.beginStep).1 (fetch s.beginStep).2 := by
  unfold step; rw [h]

end entrySteps

end Sys2Proof.Machine
end

