-- ==== Sys2Proof/Laws/Invariant.lean ====
section
/-! SUPPORT. Every shared operation keeps the invariant: bits 5 and 4 of P at 1, memory in its canonical form. -/

namespace Sys2Proof.Machine

variable {s : State}

theorem State.Inv.congr {t : State} (h : s.Inv) (hp : t.p = s.p) (hm : t.mem = s.mem) : t.Inv :=
  ⟨hp ▸ h.fixed_bits, hm ▸ h.canonical⟩

theorem State.Inv.setA (h : s.Inv) (v : Byte) : (s.setA v).Inv := h.congr rfl rfl
theorem State.Inv.setX (h : s.Inv) (v : Byte) : (s.setX v).Inv := h.congr rfl rfl
theorem State.Inv.setY (h : s.Inv) (v : Byte) : (s.setY v).Inv := h.congr rfl rfl
theorem State.Inv.setSp (h : s.Inv) (v : Byte) : (s.setSp v).Inv := h.congr rfl rfl
theorem State.Inv.setPc (h : s.Inv) (w : Word) : (s.setPc w).Inv := h.congr rfl rfl
theorem State.Inv.clearNmi (h : s.Inv) : s.clearNmi.Inv := h.congr rfl rfl
theorem State.Inv.addCycles (h : s.Inv) (n : Nat) : (s.addCycles n).Inv := h.congr rfl rfl
theorem State.Inv.beginStep (h : s.Inv) : s.beginStep.Inv := h.congr rfl rfl
theorem State.Inv.noteRead (h : s.Inv) (w : Word) : (s.noteRead w).Inv := h.congr rfl rfl

theorem State.Inv.setFlag (h : s.Inv) (f : Flag) (b : Bool) : (s.setFlag f b).Inv :=
  ⟨putFlag_fixed s.p f b h.fixed_bits, h.canonical⟩

theorem State.Inv.setZN (h : s.Inv) (v : Byte) : (s.setZN v).Inv :=
  (h.setFlag _ _).setFlag _ _

theorem State.Inv.shiftFlags (h : s.Inv) (out : Bool) (r : Byte) : (s.shiftFlags out r).Inv :=
  (h.setFlag _ _).setZN _

theorem State.Inv.compare (h : s.Inv) (r m : Byte) : (s.compare r m).Inv :=
  ((h.setFlag _ _).setFlag _ _).setFlag _ _

theorem State.Inv.bitFlags (h : s.Inv) (m : Byte) : (s.bitFlags m).Inv :=
  ((h.setFlag _ _).setFlag _ _).setFlag _ _

theorem State.Inv.addWithCarry (h : s.Inv) (m : Byte) : (s.addWithCarry m).Inv :=
  (((h.setFlag _ _).setFlag _ _).setA _).setZN _

/-- A pulled flag byte has the fixed bits whatever was pulled (10_state.md R21). -/
theorem State.Inv.setStatusFromStack (h : s.Inv) (v : Byte) : (s.setP (statusFromStack v)).Inv :=
  ⟨statusFromStack_fixed v, h.canonical⟩

theorem State.Inv.memWrite (h : s.Inv) (w : Word) (v : Byte) : (memWrite w v s).Inv :=
  ⟨h.fixed_bits, memWrite_wf w v h.canonical⟩

theorem State.Inv.push (h : s.Inv) (v : Byte) : (push v s).Inv := (h.memWrite _ _).setSp _
theorem State.Inv.pushWord (h : s.Inv) (w : Word) : (pushWord w s).Inv := (h.push _).push _
theorem State.Inv.pull (h : s.Inv) : (pull s).2.Inv := (h.setSp _).noteRead _
theorem State.Inv.pullWord (h : s.Inv) : (pullWord s).2.Inv := h.pull.pull
theorem State.Inv.read16 (h : s.Inv) (w : Word) : (read16 w s).2.Inv := (h.noteRead _).noteRead _

theorem State.Inv.resolve (h : s.Inv) (m : MemMode) : (resolve m s).2.Inv := h.congr (by simp) (by simp)
theorem State.Inv.readMem (h : s.Inv) (m : MemMode) : (readMem m s).2.Inv := h.congr (by simp) (by simp)
theorem State.Inv.readSource (h : s.Inv) (src : Source) : (readSource src s).2.Inv := h.congr (by simp) (by simp)
theorem State.Inv.jumpTarget (h : s.Inv) (t : Target) : (jumpTarget t s).2.Inv := h.congr (by simp) (by simp)

theorem State.Inv.storeTo (h : s.Inv) (m : MemMode) (v : Byte) : (storeTo m v s).Inv := (h.resolve m).memWrite _ _

theorem State.Inv.updateMem (h : s.Inv) (m : MemMode) (f : Byte → Byte) : (updateMem m f s).2.Inv :=
  ((h.resolve m).noteRead _).memWrite _ _

theorem State.Inv.updatePlace (h : s.Inv) (pl : Place) (f : Byte → Byte) : (updatePlace pl f s).2.Inv := by
  cases pl with
  | acc => exact h.setA _
  | mem m => exact h.updateMem m f

theorem State.Inv.branchIf (h : s.Inv) (f : Flag) (want : Bool) (disp : Byte) : (branchIf f want disp s).Inv := by
  unfold Machine.branchIf
  split
  · exact (h.setPc _).addCycles _
  · exact h

theorem State.Inv.interruptSequence (h : s.Inv) (k : InterruptKind) (ret : Word) : (interruptSequence k ret s).Inv :=
  ((((h.pushWord ret).push _).setFlag _ _).read16 _).setPc _

theorem State.Inv.warmReset (h : s.Inv) : (warmReset s).Inv :=
  ((((h.setSp _).setFlag _ _).clearNmi).read16 _).setPc _

theorem State.Inv.raiseInterrupt (h : s.Inv) (k : InterruptKind) : (raiseInterrupt k s).Inv := by
  cases k with
  | reset => exact h.warmReset
  | nmi => exact h.clearNmi.interruptSequence _ _
  | irq => exact h.interruptSequence _ _
  | brk => exact h.interruptSequence _ _

theorem State.Inv.returnFromInterrupt (h : s.Inv) : (returnFromInterrupt s).Inv :=
  (h.pull.setStatusFromStack _).pullWord.setPc _

theorem State.Inv.entryStep (h : s.Inv) (k : InterruptKind) : (entryStep k s).Inv :=
  (h.beginStep.raiseInterrupt k).addCycles _

theorem State.Inv.fetch (h : s.Inv) : (fetch s).2.Inv := h.congr (by simp) (by simp)

/-- Power-on makes the fixed bits 1 whatever P was; memory must be canonical. -/
theorem coldReset_inv (h : s.mem.wf = true) : (coldReset s).Inv :=
  ⟨by rw [coldReset_p]; decide, by rw [coldReset_mem]; exact h⟩

theorem placeAtPc_wf (b0 b1 b2 : Byte) (h : s.mem.wf = true) : (s.placeAtPc b0 b1 b2).mem.wf = true :=
  Memory.write_wf _ _ _ (BitVec.isLt _) (Memory.write_wf _ _ _ (BitVec.isLt _) (Memory.write_wf _ _ _ s.pc.isLt h))

theorem State.Inv.applyEvent (h : s.Inv) (e : EnvEvent) : (s.applyEvent e).Inv := by
  cases e with
  | requestNmi => exact h.congr rfl rfl
  | setIrqLine b => exact h.congr rfl rfl
  | setResetReq b => exact h.congr rfl rfl
  | writeMemory addr v => exact ⟨h.fixed_bits, Memory.write_wf _ _ _ addr.isLt h.canonical⟩

end Sys2Proof.Machine
end

