-- ==== Sys2Proof/Laws/PerInstr.lean ====
section
/-! SUPPORT. Per-instruction laws, one lemma for each constructor of Instr. -/

namespace Sys2Proof.Laws.EncodedLength

/-- An instruction that has an encoding has as many bytes as its mode says (30_encoding.md R51, R52). -/
def Statement (i : Instr) : Prop := ∀ bytes, encode i = some bytes → bytes.length = i.length

theorem of_operandBytes {i : Instr} (h : i.operandBytes.length + 1 = i.length) : Statement i := by
  intro bytes hb
  unfold encode at hb
  cases ho : i.opcode with
  | none => simp [ho] at hb
  | some op =>
    simp only [ho, Option.map_some, Option.some.injEq] at hb
    rw [← hb, List.length_cons, h]

theorem memMode_bytes (m : MemMode) : m.bytes.length + 1 = m.mode.length := by
  cases m <;> rfl

theorem source_bytes (src : Source) : src.bytes.length + 1 = src.mode.length := by
  cases src with
  | imm v => rfl
  | mem m => exact memMode_bytes m

theorem place_bytes (pl : Place) : pl.bytes.length + 1 = pl.mode.length := by
  cases pl with
  | acc => rfl
  | mem m => exact memMode_bytes m

theorem target_bytes (t : Target) : t.bytes.length + 1 = t.mode.length := by
  cases t <;> rfl

theorem lda (src : Source) : Statement (.lda src) := of_operandBytes (source_bytes src)
theorem ldx (src : Source) : Statement (.ldx src) := of_operandBytes (source_bytes src)
theorem ldy (src : Source) : Statement (.ldy src) := of_operandBytes (source_bytes src)
theorem sta (m : MemMode) : Statement (.sta m) := of_operandBytes (memMode_bytes m)
theorem stx (m : MemMode) : Statement (.stx m) := of_operandBytes (memMode_bytes m)
theorem sty (m : MemMode) : Statement (.sty m) := of_operandBytes (memMode_bytes m)
theorem tax : Statement .tax := of_operandBytes rfl
theorem tay : Statement .tay := of_operandBytes rfl
theorem txa : Statement .txa := of_operandBytes rfl
theorem tya : Statement .tya := of_operandBytes rfl
theorem tsx : Statement .tsx := of_operandBytes rfl
theorem txs : Statement .txs := of_operandBytes rfl
theorem adc (src : Source) : Statement (.adc src) := of_operandBytes (source_bytes src)
theorem sbc (src : Source) : Statement (.sbc src) := of_operandBytes (source_bytes src)
theorem and (src : Source) : Statement (.and src) := of_operandBytes (source_bytes src)
theorem ora (src : Source) : Statement (.ora src) := of_operandBytes (source_bytes src)
theorem eor (src : Source) : Statement (.eor src) := of_operandBytes (source_bytes src)
theorem bit (m : MemMode) : Statement (.bit m) := of_operandBytes (memMode_bytes m)
theorem asl (dst : Place) : Statement (.asl dst) := of_operandBytes (place_bytes dst)
theorem lsr (dst : Place) : Statement (.lsr dst) := of_operandBytes (place_bytes dst)
theorem rol (dst : Place) : Statement (.rol dst) := of_operandBytes (place_bytes dst)
theorem ror (dst : Place) : Statement (.ror dst) := of_operandBytes (place_bytes dst)
theorem inc (m : MemMode) : Statement (.inc m) := of_operandBytes (memMode_bytes m)
theorem dec (m : MemMode) : Statement (.dec m) := of_operandBytes (memMode_bytes m)
theorem inx : Statement .inx := of_operandBytes rfl
theorem iny : Statement .iny := of_operandBytes rfl
theorem dex : Statement .dex := of_operandBytes rfl
theorem dey : Statement .dey := of_operandBytes rfl
theorem cmp (src : Source) : Statement (.cmp src) := of_operandBytes (source_bytes src)
theorem cpx (src : Source) : Statement (.cpx src) := of_operandBytes (source_bytes src)
theorem cpy (src : Source) : Statement (.cpy src) := of_operandBytes (source_bytes src)
theorem bcc (disp : Byte) : Statement (.bcc disp) := of_operandBytes rfl
theorem bcs (disp : Byte) : Statement (.bcs disp) := of_operandBytes rfl
theorem beq (disp : Byte) : Statement (.beq disp) := of_operandBytes rfl
theorem bne (disp : Byte) : Statement (.bne disp) := of_operandBytes rfl
theorem bmi (disp : Byte) : Statement (.bmi disp) := of_operandBytes rfl
theorem bpl (disp : Byte) : Statement (.bpl disp) := of_operandBytes rfl
theorem bvc (disp : Byte) : Statement (.bvc disp) := of_operandBytes rfl
theorem bvs (disp : Byte) : Statement (.bvs disp) := of_operandBytes rfl
theorem jmp (t : Target) : Statement (.jmp t) := of_operandBytes (target_bytes t)
theorem jsr (w : Word) : Statement (.jsr w) := of_operandBytes rfl
theorem rts : Statement .rts := of_operandBytes rfl
theorem pha : Statement .pha := of_operandBytes rfl
theorem php : Statement .php := of_operandBytes rfl
theorem pla : Statement .pla := of_operandBytes rfl
theorem plp : Statement .plp := of_operandBytes rfl
theorem clc : Statement .clc := of_operandBytes rfl
theorem sec : Statement .sec := of_operandBytes rfl
theorem cli : Statement .cli := of_operandBytes rfl
theorem sei : Statement .sei := of_operandBytes rfl
theorem cld : Statement .cld := of_operandBytes rfl
theorem sed : Statement .sed := of_operandBytes rfl
theorem clv : Statement .clv := of_operandBytes rfl
theorem brk : Statement .brk := of_operandBytes rfl
theorem rti : Statement .rti := of_operandBytes rfl
theorem nop : Statement .nop := of_operandBytes rfl
theorem unused (op : Byte) : Statement (.unused op) := of_operandBytes rfl

end Sys2Proof.Laws.EncodedLength
end

