-- ==== Sys2Proof/Tests/Slice0.lean ====
section
/-! SUPPORT. Tests. Expected results come from the spec: the vectors of 95_test_vectors.md Part 2 by their ids, the encodings
of 30_encoding.md R55 and R56, the examples of the rules. The last section shows states that meet the hypotheses of the
statements. -/

namespace Sys2Proof.Tests
open Sys2Proof Sys2Proof.Machine

/-- A state of the test: the registers, PC, and memory with the listed bytes; no request and no I/O region. -/
def st (a x y sp p : Byte) (pc : Word) (bytes : List (Nat × Byte)) : State :=
  State.construct a x y sp p pc (bytes.foldl (fun m c => m.write c.1 c.2) []) []

/-- The writes among a step's accesses, in order. -/
def writesOf (l : List BusAccess) : List (Word × Byte) :=
  l.filterMap fun | .read _ => none | .write w v => some (w, v)

/-- One step from `s` answers a next state with these registers, these writes in order, and this cycle count. -/
def stepGives (s : State) (a x y sp p : Byte) (pc : Word) (writes : List (Word × Byte)) (cycles : Nat) : Bool :=
  match step s with
  | .next t => t.a == a && t.x == x && t.y == y && t.sp == sp && t.p == p && t.pc == pc &&
      decide (writesOf t.accesses = writes) && writes.all (fun c => t.mem.read c.1.toNat == c.2) && t.cycles == cycles
  | _ => false

/-! ### One step: vectors of 95_test_vectors.md Part 2 -/

/-- LS9: LDA ($FF,X): pointer high byte from 0x0000 not 0x0100. -/
theorem test_LS9_lda : stepGives (st 0x00 0x00 0x00 0xFD 0x34 0x0200
      [(0x0200, 0xA1), (0x0201, 0xFF), (0x0000, 0x12), (0x00FF, 0x34), (0x0100, 0x99), (0x1234, 0x5A)])
      0x5A 0x00 0x00 0xFD 0x34 0x0202 [] 6 = true := by decide

/-- LS10: LDA ($86),Y: indirect indexed, page cross. -/
theorem test_LS10_lda : stepGives (st 0x00 0x00 0xE0 0xFD 0x34 0x0200
      [(0x0200, 0xB1), (0x0201, 0x86), (0x0086, 0x28), (0x0087, 0x40), (0x4108, 0x01)])
      0x01 0x00 0xE0 0xFD 0x34 0x0202 [] 6 = true := by decide

/-- LS12: LDX $F0,Y: ZPY wrap. -/
theorem test_LS12_ldx : stepGives (st 0x00 0x00 0x20 0xFD 0x34 0x0200
      [(0x0200, 0xB6), (0x0201, 0xF0), (0x0010, 0x80)])
      0x00 0x80 0x20 0xFD 0xB4 0x0202 [] 4 = true := by decide

/-- LS13: LDX $12FF,Y: page cross; Z set. -/
theorem test_LS13_ldx : stepGives (st 0x00 0x00 0x01 0xFD 0x34 0x0200
      [(0x0200, 0xBE), (0x0201, 0xFF), (0x0202, 0x12), (0x1300, 0x00)])
      0x00 0x00 0x01 0xFD 0x36 0x0203 [] 5 = true := by decide

/-- LS14: LDY $1280,X: no cross. -/
theorem test_LS14_ldy : stepGives (st 0x00 0x7F 0x00 0xFD 0x34 0x0200
      [(0x0200, 0xBC), (0x0201, 0x80), (0x0202, 0x12), (0x12FF, 0xFF)])
      0x00 0x7F 0xFF 0xFD 0xB4 0x0203 [] 4 = true := by decide

/-- LS16: STA $12F0,X: store: 5 cycles with or without cross; no flags. -/
theorem test_LS16_sta : stepGives (st 0xAA 0x20 0x00 0xFD 0x36 0x0200
      [(0x0200, 0x9D), (0x0201, 0xF0), (0x0202, 0x12)])
      0xAA 0x20 0x00 0xFD 0x36 0x0203 [(0x1310, 0xAA)] 5 = true := by decide

/-- LS17: STA ($86),Y: store of 0 does not set Z. -/
theorem test_LS17_sta : stepGives (st 0x00 0x00 0xE0 0xFD 0xB4 0x0200
      [(0x0200, 0x91), (0x0201, 0x86), (0x0086, 0x28), (0x0087, 0x40)])
      0x00 0x00 0xE0 0xFD 0xB4 0x0202 [(0x4108, 0x00)] 6 = true := by decide

/-- LS18: STX $F0,Y: ZPY wrap. -/
theorem test_LS18_stx : stepGives (st 0x00 0xAB 0x20 0xFD 0x34 0x0200
      [(0x0200, 0x96), (0x0201, 0xF0)])
      0x00 0xAB 0x20 0xFD 0x34 0x0202 [(0x0010, 0xAB)] 4 = true := by decide

/-- LS19: STY $80,X: ZPX wrap to 0x0010. -/
theorem test_LS19_sty : stepGives (st 0x00 0x90 0x33 0xFD 0x34 0x0200
      [(0x0200, 0x94), (0x0201, 0x80)])
      0x00 0x90 0x33 0xFD 0x34 0x0202 [(0x0010, 0x33)] 4 = true := by decide

/-- TR1: TAX: Z. -/
theorem test_TR1_tax : stepGives (st 0x00 0x07 0x00 0xFD 0x34 0x0200
      [(0x0200, 0xAA)])
      0x00 0x00 0x00 0xFD 0x36 0x0201 [] 2 = true := by decide

/-- TR2: TAY: N. -/
theorem test_TR2_tay : stepGives (st 0x90 0x00 0x00 0xFD 0x34 0x0200
      [(0x0200, 0xA8)])
      0x90 0x00 0x90 0xFD 0xB4 0x0201 [] 2 = true := by decide

/-- TR3: TXA: clears N and Z. -/
theorem test_TR3_txa : stepGives (st 0x80 0x01 0x00 0xFD 0xB6 0x0200
      [(0x0200, 0x8A)])
      0x01 0x01 0x00 0xFD 0x34 0x0201 [] 2 = true := by decide

/-- TR4: TYA: N. -/
theorem test_TR4_tya : stepGives (st 0x00 0x00 0xFF 0xFD 0x34 0x0200
      [(0x0200, 0x98)])
      0xFF 0x00 0xFF 0xFD 0xB4 0x0201 [] 2 = true := by decide

/-- TR5: TSX: flags from SP value; Z. -/
theorem test_TR5_tsx : stepGives (st 0x00 0x00 0x00 0x00 0xB4 0x0200
      [(0x0200, 0xBA)])
      0x00 0x00 0x00 0x00 0x36 0x0201 [] 2 = true := by decide

/-- TR6: TXS: no flags although value is 0. -/
theorem test_TR6_txs : stepGives (st 0x00 0x00 0x00 0xFD 0xB4 0x0200
      [(0x0200, 0x9A)])
      0x00 0x00 0x00 0x00 0xB4 0x0201 [] 2 = true := by decide

/-- AR7: ADC #$FF: 0x80 + (-1): V and C. -/
theorem test_AR7_adc : stepGives (st 0x80 0x00 0x00 0xFD 0x34 0x0200
      [(0x0200, 0x69), (0x0201, 0xFF)])
      0x7F 0x00 0x00 0xFD 0x75 0x0202 [] 2 = true := by decide

/-- AR9: ADC #$09: D=1 ignored: binary result 0x12, not BCD 0x18. -/
theorem test_AR9_adc : stepGives (st 0x09 0x00 0x00 0xFD 0x3C 0x0200
      [(0x0200, 0x69), (0x0201, 0x09)])
      0x12 0x00 0x00 0xFD 0x3C 0x0202 [] 2 = true := by decide

/-- AR13: SBC #$01: overflow neg-pos. -/
theorem test_AR13_sbc : stepGives (st 0x80 0x00 0x00 0xFD 0x35 0x0200
      [(0x0200, 0xE9), (0x0201, 0x01)])
      0x7F 0x00 0x00 0xFD 0x75 0x0202 [] 2 = true := by decide

/-- AR15: SBC #$30: borrow in (C=0) subtracts one more. -/
theorem test_AR15_sbc : stepGives (st 0x50 0x00 0x00 0xFD 0x34 0x0200
      [(0x0200, 0xE9), (0x0201, 0x30)])
      0x1F 0x00 0x00 0xFD 0x35 0x0202 [] 2 = true := by decide

/-- LG1: AND #$0F: Z. -/
theorem test_LG1_and : stepGives (st 0xF0 0x00 0x00 0xFD 0xB4 0x0200
      [(0x0200, 0x29), (0x0201, 0x0F)])
      0x00 0x00 0x00 0xFD 0x36 0x0202 [] 2 = true := by decide

/-- LG2: AND #$80: N; V, C untouched. -/
theorem test_LG2_and : stepGives (st 0xFF 0x00 0x00 0xFD 0x75 0x0200
      [(0x0200, 0x29), (0x0201, 0x80)])
      0x80 0x00 0x00 0xFD 0xF5 0x0202 [] 2 = true := by decide

/-- LG4: ORA $10: N. -/
theorem test_LG4_ora : stepGives (st 0x01 0x00 0x00 0xFD 0x34 0x0200
      [(0x0200, 0x05), (0x0201, 0x10), (0x0010, 0x80)])
      0x81 0x00 0x00 0xFD 0xB4 0x0202 [] 3 = true := by decide

/-- LG5: EOR #$FF: Z. -/
theorem test_LG5_eor : stepGives (st 0xFF 0x00 0x00 0xFD 0xB4 0x0200
      [(0x0200, 0x49), (0x0201, 0xFF)])
      0x00 0x00 0x00 0xFD 0x36 0x0202 [] 2 = true := by decide

/-- LG6: EOR #$FF: complement. -/
theorem test_LG6_eor : stepGives (st 0x0F 0x00 0x00 0xFD 0x34 0x0200
      [(0x0200, 0x49), (0x0201, 0xFF)])
      0xF0 0x00 0x00 0xFD 0xB4 0x0202 [] 2 = true := by decide

/-- LG7: BIT $10: Z from A AND M; N, V from M. -/
theorem test_LG7_bit : stepGives (st 0x01 0x00 0x00 0xFD 0x34 0x0200
      [(0x0200, 0x24), (0x0201, 0x10), (0x0010, 0xC0)])
      0x01 0x00 0x00 0xFD 0xF6 0x0202 [] 3 = true := by decide

/-- LG9: BIT $1234: N, V cleared from M. -/
theorem test_LG9_bit : stepGives (st 0xFF 0x00 0x00 0xFD 0xF4 0x0200
      [(0x0200, 0x2C), (0x0201, 0x34), (0x0202, 0x12), (0x1234, 0x3F)])
      0xFF 0x00 0x00 0xFD 0x34 0x0203 [] 4 = true := by decide

/-- SH3: ASL A: N; old C dropped. -/
theorem test_SH3_asl : stepGives (st 0x40 0x00 0x00 0xFD 0x35 0x0200
      [(0x0200, 0x0A)])
      0x80 0x00 0x00 0xFD 0xB4 0x0201 [] 2 = true := by decide

/-- SH11: ASL $F0,X: ZPX wrap. -/
theorem test_SH11_asl : stepGives (st 0x00 0x20 0x00 0xFD 0x34 0x0200
      [(0x0200, 0x16), (0x0201, 0xF0), (0x0010, 0x55)])
      0x00 0x20 0x00 0xFD 0xB4 0x0202 [(0x0010, 0xAA)] 6 = true := by decide

/-- SH4: LSR A: Z and C; N always 0. -/
theorem test_SH4_lsr : stepGives (st 0x01 0x00 0x00 0xFD 0xB4 0x0200
      [(0x0200, 0x4A)])
      0x00 0x00 0x00 0xFD 0x37 0x0201 [] 2 = true := by decide

/-- SH5: LSR $10: memory form: one read, one write. -/
theorem test_SH5_lsr : stepGives (st 0x00 0x00 0x00 0xFD 0xB4 0x0200
      [(0x0200, 0x46), (0x0201, 0x10), (0x0010, 0x03)])
      0x00 0x00 0x00 0xFD 0x35 0x0202 [(0x0010, 0x01)] 5 = true := by decide

/-- SH6: ROL A: C in 0: Z, C. -/
theorem test_SH6_rol : stepGives (st 0x80 0x00 0x00 0xFD 0x34 0x0200
      [(0x0200, 0x2A)])
      0x00 0x00 0x00 0xFD 0x37 0x0201 [] 2 = true := by decide

/-- SH7: ROL A: C in to bit 0. -/
theorem test_SH7_rol : stepGives (st 0x40 0x00 0x00 0xFD 0x35 0x0200
      [(0x0200, 0x2A)])
      0x81 0x00 0x00 0xFD 0xB4 0x0201 [] 2 = true := by decide

/-- SH9: ROR A: C in to bit 7: N. -/
theorem test_SH9_ror : stepGives (st 0x02 0x00 0x00 0xFD 0x35 0x0200
      [(0x0200, 0x6A)])
      0x81 0x00 0x00 0xFD 0xB4 0x0201 [] 2 = true := by decide

/-- SH10: ROR $12F0,X: RMW ABX: 7 cycles, no penalty. -/
theorem test_SH10_ror : stepGives (st 0x00 0x20 0x00 0xFD 0x35 0x0200
      [(0x0200, 0x7E), (0x0201, 0xF0), (0x0202, 0x12), (0x1310, 0x00)])
      0x00 0x20 0x00 0xFD 0xB4 0x0203 [(0x1310, 0x80)] 7 = true := by decide

/-- ID1: INC $10: wrap to 0, Z; C kept. -/
theorem test_ID1_inc : stepGives (st 0x00 0x00 0x00 0xFD 0x35 0x0200
      [(0x0200, 0xE6), (0x0201, 0x10), (0x0010, 0xFF)])
      0x00 0x00 0x00 0xFD 0x37 0x0202 [(0x0010, 0x00)] 5 = true := by decide

/-- ID9: INC $12FF,X: RMW ABX always 7. -/
theorem test_ID9_inc : stepGives (st 0x00 0x01 0x00 0xFD 0x34 0x0200
      [(0x0200, 0xFE), (0x0201, 0xFF), (0x0202, 0x12), (0x1300, 0x41)])
      0x00 0x01 0x00 0xFD 0x34 0x0203 [(0x1300, 0x42)] 7 = true := by decide

/-- ID3: DEC $0200: wrap to 0xFF. -/
theorem test_ID3_dec : stepGives (st 0x00 0x00 0x00 0xFD 0x34 0x0300
      [(0x0300, 0xCE), (0x0301, 0x00), (0x0302, 0x02), (0x0200, 0x00)])
      0x00 0x00 0x00 0xFD 0xB4 0x0303 [(0x0200, 0xFF)] 6 = true := by decide

/-- ID4: DEC $10,X: Z. -/
theorem test_ID4_dec : stepGives (st 0x00 0x01 0x00 0xFD 0x34 0x0200
      [(0x0200, 0xD6), (0x0201, 0x10), (0x0011, 0x01)])
      0x00 0x01 0x00 0xFD 0x36 0x0202 [(0x0011, 0x00)] 6 = true := by decide

/-- ID5: INX: RN §9 wrap. -/
theorem test_ID5_inx : stepGives (st 0x00 0xFF 0x00 0xFD 0xB4 0x0200
      [(0x0200, 0xE8)])
      0x00 0x00 0x00 0xFD 0x36 0x0201 [] 2 = true := by decide

/-- ID6: INY: N. -/
theorem test_ID6_iny : stepGives (st 0x00 0x00 0x7F 0xFD 0x34 0x0200
      [(0x0200, 0xC8)])
      0x00 0x00 0x80 0xFD 0xB4 0x0201 [] 2 = true := by decide

/-- ID7: DEX: wrap to 0xFF. -/
theorem test_ID7_dex : stepGives (st 0x00 0x00 0x00 0xFD 0x34 0x0200
      [(0x0200, 0xCA)])
      0x00 0xFF 0x00 0xFD 0xB4 0x0201 [] 2 = true := by decide

/-- ID8: DEY: Z. -/
theorem test_ID8_dey : stepGives (st 0x00 0x00 0x01 0xFD 0x34 0x0200
      [(0x0200, 0x88)])
      0x00 0x00 0x00 0xFD 0x36 0x0201 [] 2 = true := by decide

/-- CP5: CMP #$FF: 0-0xFF=0x01: C=0 N=0. -/
theorem test_CP5_cmp : stepGives (st 0x00 0x00 0x00 0xFD 0x34 0x0200
      [(0x0200, 0xC9), (0x0201, 0xFF)])
      0x00 0x00 0x00 0xFD 0x34 0x0202 [] 2 = true := by decide

/-- CP9: CMP ($86),Y: page cross penalty. -/
theorem test_CP9_cmp : stepGives (st 0x10 0x00 0xE0 0xFD 0x34 0x0200
      [(0x0200, 0xD1), (0x0201, 0x86), (0x0086, 0x28), (0x0087, 0x40), (0x4108, 0x10)])
      0x10 0x00 0xE0 0xFD 0x37 0x0202 [] 6 = true := by decide

/-- CP7: CPX #$10: equal. -/
theorem test_CP7_cpx : stepGives (st 0x00 0x10 0x00 0xFD 0xB4 0x0200
      [(0x0200, 0xE0), (0x0201, 0x10)])
      0x00 0x10 0x00 0xFD 0x37 0x0202 [] 2 = true := by decide

/-- CP8: CPY $10: less. -/
theorem test_CP8_cpy : stepGives (st 0x00 0x00 0x04 0xFD 0x35 0x0200
      [(0x0200, 0xC4), (0x0201, 0x10), (0x0010, 0x05)])
      0x00 0x00 0x04 0xFD 0xB4 0x0202 [] 3 = true := by decide

/-- BR1: BCC +5: taken, same page: 3. -/
theorem test_BR1_bcc : stepGives (st 0x00 0x00 0x00 0xFD 0x34 0x0200
      [(0x0200, 0x90), (0x0201, 0x05)])
      0x00 0x00 0x00 0xFD 0x34 0x0207 [] 3 = true := by decide

/-- BR2: BCC +5: not taken: 2. -/
theorem test_BR2_bcc : stepGives (st 0x00 0x00 0x00 0xFD 0x35 0x0200
      [(0x0200, 0x90), (0x0201, 0x05)])
      0x00 0x00 0x00 0xFD 0x35 0x0202 [] 2 = true := by decide

/-- BR3: BCS -2: branch to self. -/
theorem test_BR3_bcs : stepGives (st 0x00 0x00 0x00 0xFD 0x35 0x0200
      [(0x0200, 0xB0), (0x0201, 0xFE)])
      0x00 0x00 0x00 0xFD 0x35 0x0200 [] 3 = true := by decide

/-- BR4: BEQ +3: taken, page cross from next=0x02FF: 4. -/
theorem test_BR4_beq : stepGives (st 0x00 0x00 0x00 0xFD 0x36 0x02FD
      [(0x02FD, 0xF0), (0x02FE, 0x03)])
      0x00 0x00 0x00 0xFD 0x36 0x0302 [] 4 = true := by decide

/-- BR10: BEQ +0: taken to next: 3 cycles. -/
theorem test_BR10_beq : stepGives (st 0x00 0x00 0x00 0xFD 0x36 0x0200
      [(0x0200, 0xF0), (0x0201, 0x00)])
      0x00 0x00 0x00 0xFD 0x36 0x0202 [] 3 = true := by decide

/-- BR5: BNE -5: backward. -/
theorem test_BR5_bne : stepGives (st 0x00 0x00 0x00 0xFD 0x34 0x0210
      [(0x0210, 0xD0), (0x0211, 0xFB)])
      0x00 0x00 0x00 0xFD 0x34 0x020D [] 3 = true := by decide

/-- BR11: BNE +2: next=0x0300, target 0x0302: no cross although pc0 is in page 2. -/
theorem test_BR11_bne : stepGives (st 0x00 0x00 0x00 0xFD 0x34 0x02FE
      [(0x02FE, 0xD0), (0x02FF, 0x02)])
      0x00 0x00 0x00 0xFD 0x34 0x0302 [] 3 = true := by decide

/-- BR6: BMI +16: taken. -/
theorem test_BR6_bmi : stepGives (st 0x00 0x00 0x00 0xFD 0xB4 0x0200
      [(0x0200, 0x30), (0x0201, 0x10)])
      0x00 0x00 0x00 0xFD 0xB4 0x0212 [] 3 = true := by decide

/-- BR7: BPL -128: most negative offset; cross. -/
theorem test_BR7_bpl : stepGives (st 0x00 0x00 0x00 0xFD 0x34 0x0200
      [(0x0200, 0x10), (0x0201, 0x80)])
      0x00 0x00 0x00 0xFD 0x34 0x0182 [] 4 = true := by decide

/-- BR8: BVC +127: most positive offset; pc0+129. -/
theorem test_BR8_bvc : stepGives (st 0x00 0x00 0x00 0xFD 0x34 0x0200
      [(0x0200, 0x50), (0x0201, 0x7F)])
      0x00 0x00 0x00 0xFD 0x34 0x0281 [] 3 = true := by decide

/-- BR9: BVS +16: 16-bit wrap. -/
theorem test_BR9_bvs : stepGives (st 0x00 0x00 0x00 0xFD 0x74 0xFFFD
      [(0xFFFD, 0x70), (0xFFFE, 0x10)])
      0x00 0x00 0x00 0xFD 0x74 0x000F [] 4 = true := by decide

/-- BR12: JMP $C000: absolute. -/
theorem test_BR12_jmp : stepGives (st 0x00 0x00 0x00 0xFD 0x34 0x0200
      [(0x0200, 0x4C), (0x0201, 0x00), (0x0202, 0xC0)])
      0x00 0x00 0x00 0xFD 0x34 0xC000 [] 3 = true := by decide

/-- BR14: JMP ($12FF): D14: high byte from 0x1300, not 0x1200. -/
theorem test_BR14_jmp : stepGives (st 0x00 0x00 0x00 0xFD 0x34 0x0200
      [(0x0200, 0x6C), (0x0201, 0xFF), (0x0202, 0x12), (0x1200, 0x99), (0x12FF, 0x34), (0x1300, 0x12)])
      0x00 0x00 0x00 0xFD 0x34 0x1234 [] 5 = true := by decide

/-- BR15: JSR $1234: pushes 0x0602. -/
theorem test_BR15_jsr : stepGives (st 0x00 0x00 0x00 0xFD 0x34 0x0600
      [(0x0600, 0x20), (0x0601, 0x34), (0x0602, 0x12)])
      0x00 0x00 0x00 0xFB 0x34 0x1234 [(0x01FD, 0x06), (0x01FC, 0x02)] 6 = true := by decide

/-- BR16: JSR $1234: stack wrap. -/
theorem test_BR16_jsr : stepGives (st 0x00 0x00 0x00 0x00 0x34 0x0600
      [(0x0600, 0x20), (0x0601, 0x34), (0x0602, 0x12)])
      0x00 0x00 0x00 0xFE 0x34 0x1234 [(0x0100, 0x06), (0x01FF, 0x02)] 6 = true := by decide

/-- BR17: RTS: 0x0602+1. -/
theorem test_BR17_rts : stepGives (st 0x00 0x00 0x00 0xFB 0x34 0x0200
      [(0x0200, 0x60), (0x01FC, 0x02), (0x01FD, 0x06)])
      0x00 0x00 0x00 0xFD 0x34 0x0603 [] 6 = true := by decide

/-- BR18: RTS: SP wrap; 0xFFFF+1 = 0x0000. -/
theorem test_BR18_rts : stepGives (st 0x00 0x00 0x00 0xFF 0x34 0x0200
      [(0x0200, 0x60), (0x0100, 0xFF), (0x0101, 0xFF)])
      0x00 0x00 0x00 0x01 0x34 0x0000 [] 6 = true := by decide

/-- SF1: PHA: push. -/
theorem test_SF1_pha : stepGives (st 0x42 0x00 0x00 0xFD 0x34 0x0200
      [(0x0200, 0x48)])
      0x42 0x00 0x00 0xFC 0x34 0x0201 [(0x01FD, 0x42)] 3 = true := by decide

/-- SF2: PHA: SP wraps to 0xFF. -/
theorem test_SF2_pha : stepGives (st 0x42 0x00 0x00 0x00 0x34 0x0200
      [(0x0200, 0x48)])
      0x42 0x00 0x00 0xFF 0x34 0x0201 [(0x0100, 0x42)] 3 = true := by decide

/-- SF3: PHP: register 0xF1; pushed with bits 5, 4 set. -/
theorem test_SF3_php : stepGives (st 0x00 0x00 0x00 0xFD 0xF1 0x0200
      [(0x0200, 0x08)])
      0x00 0x00 0x00 0xFC 0xF1 0x0201 [(0x01FD, 0xF1)] 3 = true := by decide

/-- SF4: PLA: Z. -/
theorem test_SF4_pla : stepGives (st 0x09 0x00 0x00 0xFC 0xB4 0x0200
      [(0x0200, 0x68), (0x01FD, 0x00)])
      0x00 0x00 0x00 0xFD 0x36 0x0201 [] 4 = true := by decide

/-- SF5: PLA: SP wraps to 0x00; N. -/
theorem test_SF5_pla : stepGives (st 0x00 0x00 0x00 0xFF 0x34 0x0200
      [(0x0200, 0x68), (0x0100, 0x80)])
      0x80 0x00 0x00 0x00 0xB4 0x0201 [] 4 = true := by decide

/-- SF6: PLP: bits 5, 4 forced to 1. -/
theorem test_SF6_plp : stepGives (st 0x00 0x00 0x00 0xFC 0x34 0x0200
      [(0x0200, 0x28), (0x01FD, 0xC3)])
      0x00 0x00 0x00 0xFD 0xF3 0x0201 [] 4 = true := by decide

/-- SF7: PLP: all flags cleared; P reads 0x30. -/
theorem test_SF7_plp : stepGives (st 0x00 0x00 0x00 0xFC 0xFF 0x0200
      [(0x0200, 0x28), (0x01FD, 0x00)])
      0x00 0x00 0x00 0xFD 0x30 0x0201 [] 4 = true := by decide

/-- SF8: CLC: only that flag changes. -/
theorem test_SF8_clc : stepGives (st 0x00 0x00 0x00 0xFD 0xFF 0x0200
      [(0x0200, 0x18)])
      0x00 0x00 0x00 0xFD 0xFE 0x0201 [] 2 = true := by decide

/-- SF9: SEC: only that flag changes. -/
theorem test_SF9_sec : stepGives (st 0x00 0x00 0x00 0xFD 0x30 0x0200
      [(0x0200, 0x38)])
      0x00 0x00 0x00 0xFD 0x31 0x0201 [] 2 = true := by decide

/-- SF10: CLI: only that flag changes. -/
theorem test_SF10_cli : stepGives (st 0x00 0x00 0x00 0xFD 0xFF 0x0200
      [(0x0200, 0x58)])
      0x00 0x00 0x00 0xFD 0xFB 0x0201 [] 2 = true := by decide

/-- SF11: SEI: only that flag changes. -/
theorem test_SF11_sei : stepGives (st 0x00 0x00 0x00 0xFD 0x30 0x0200
      [(0x0200, 0x78)])
      0x00 0x00 0x00 0xFD 0x34 0x0201 [] 2 = true := by decide

/-- SF12: SEI: RN §8: idempotent. -/
theorem test_SF12_sei : stepGives (st 0x00 0x00 0x00 0xFD 0x34 0x0200
      [(0x0200, 0x78)])
      0x00 0x00 0x00 0xFD 0x34 0x0201 [] 2 = true := by decide

/-- SF13: CLD: only that flag changes. -/
theorem test_SF13_cld : stepGives (st 0x00 0x00 0x00 0xFD 0xFF 0x0200
      [(0x0200, 0xD8)])
      0x00 0x00 0x00 0xFD 0xF7 0x0201 [] 2 = true := by decide

/-- SF14: SED: only that flag changes. -/
theorem test_SF14_sed : stepGives (st 0x00 0x00 0x00 0xFD 0x30 0x0200
      [(0x0200, 0xF8)])
      0x00 0x00 0x00 0xFD 0x38 0x0201 [] 2 = true := by decide

/-- SF15: CLV: only that flag changes. -/
theorem test_SF15_clv : stepGives (st 0x00 0x00 0x00 0xFD 0xFF 0x0200
      [(0x0200, 0xB8)])
      0x00 0x00 0x00 0xFD 0xBF 0x0201 [] 2 = true := by decide

/-- SF16: BRK: pushes 0x0302, P with B. -/
theorem test_SF16_brk : stepGives (st 0x00 0x00 0x00 0xFD 0x30 0x0300
      [(0x0300, 0x00), (0x0301, 0xEE), (0xFFFE, 0x00), (0xFFFF, 0x90)])
      0x00 0x00 0x00 0xFA 0x34 0x9000 [(0x01FD, 0x03), (0x01FC, 0x02), (0x01FB, 0x30)] 7 = true := by decide

/-- SF17: BRK: ret = 0x1301 (carry into high byte); stack wraps 0x0101, 0x0100, 0x01FF; D kept; I already 1. -/
theorem test_SF17_brk : stepGives (st 0x00 0x00 0x00 0x01 0xFB 0x12FF
      [(0x12FF, 0x00), (0x1300, 0xEE), (0xFFFE, 0x34), (0xFFFF, 0x12)])
      0x00 0x00 0x00 0xFE 0xFF 0x1234 [(0x0101, 0x13), (0x0100, 0x01), (0x01FF, 0xFB)] 7 = true := by decide

/-- SF18: RTI: inverse of SF16; no +1. -/
theorem test_SF18_rti : stepGives (st 0x00 0x00 0x00 0xFA 0x34 0x9000
      [(0x9000, 0x40), (0x01FB, 0x30), (0x01FC, 0x02), (0x01FD, 0x03)])
      0x00 0x00 0x00 0xFD 0x30 0x0302 [] 6 = true := by decide

/-- SF19: RTI: pulled 0xCF reads back 0xFF. -/
theorem test_SF19_rti : stepGives (st 0x00 0x00 0x00 0xFA 0x34 0x9000
      [(0x9000, 0x40), (0x01FB, 0xCF), (0x01FC, 0xFF), (0x01FD, 0xFF)])
      0x00 0x00 0x00 0xFD 0xFF 0xFFFF [] 6 = true := by decide

/-- SF20: NOP: nothing. -/
theorem test_SF20_nop : stepGives (st 0x01 0x02 0x03 0xFD 0xF7 0x0200
      [(0x0200, 0xEA)])
      0x01 0x02 0x03 0xFD 0xF7 0x0201 [] 2 = true := by decide

/-- SF21: (unused 0x02): 1 byte, 2 cycles, nothing. -/
theorem test_SF21_unused : stepGives (st 0x01 0x02 0x03 0xFD 0xF7 0x0200
      [(0x0200, 0x02), (0x0201, 0xFF)])
      0x01 0x02 0x03 0xFD 0xF7 0x0201 [] 2 = true := by decide

/-- SF22: (unused 0xFF): PC wraps to 0x0000. -/
theorem test_SF22_unused : stepGives (st 0x00 0x00 0x00 0xFD 0x34 0xFFFF
      [(0xFFFF, 0xFF)])
      0x00 0x00 0x00 0xFD 0x34 0x0000 [] 2 = true := by decide

/-! ### One step: entries, all accesses in order (95_test_vectors.md, V-INT) -/

/-- The step answers a next state with these registers, NMI latch, accesses in order, and cycle count. -/
def entryGives (s : State) (a x y sp p : Byte) (pc : Word) (nmi : Bool) (accesses : List BusAccess) (cycles : Nat) : Bool :=
  match step s with
  | .next t => t.a == a && t.x == x && t.y == y && t.sp == sp && t.p == p && t.pc == pc && t.nmiPending == nmi &&
      decide (t.accesses = accesses) && t.cycles == cycles
  | _ => false

/-- IN1: IRQ taken: pushes PC=0300 and P with bit 4 = 0 (20), sets I. -/
theorem test_IN1_entry : entryGives ((st 0x00 0x00 0x00 0xFD 0x30 0x0300
      [(0x0300, 0xEA), (0xFFFA, 0x00), (0xFFFB, 0xA0), (0xFFFE, 0x00), (0xFFFF, 0x90)]).applyEvents [.setIrqLine true])
      0x00 0x00 0x00 0xFA 0x34 0x9000 false [.write 0x01FD 0x03, .write 0x01FC 0x00, .write 0x01FB 0x20, .read 0xFFFE, .read 0xFFFF] 7 = true := by decide

/-- IN2: I=1 masks IRQ: the NOP at 0300 executes instead. -/
theorem test_IN2_entry : entryGives ((st 0x00 0x00 0x00 0xFD 0x34 0x0300
      [(0x0300, 0xEA), (0xFFFA, 0x00), (0xFFFB, 0xA0), (0xFFFE, 0x00), (0xFFFF, 0x90)]).applyEvents [.setIrqLine true])
      0x00 0x00 0x00 0xFD 0x34 0x0301 false [.read 0x0300] 2 = true := by decide

/-- IN3: NMI ignores I; pushed P = E7 (bit 4 cleared, bit 5 set); D stays set; latch cleared. -/
theorem test_IN3_entry : entryGives ((st 0x00 0x00 0x00 0xFD 0xF7 0x0300
      [(0x0300, 0xEA), (0xFFFA, 0x00), (0xFFFB, 0xA0), (0xFFFE, 0x00), (0xFFFF, 0x90)]).applyEvents [.requestNmi])
      0x00 0x00 0x00 0xFA 0xF7 0xA000 false [.write 0x01FD 0x03, .write 0x01FC 0x00, .write 0x01FB 0xE7, .read 0xFFFA, .read 0xFFFB] 7 = true := by decide

/-- IN4: NMI wins; IRQ stays requested and is now masked by I. -/
theorem test_IN4_entry : entryGives ((st 0x00 0x00 0x00 0xFD 0x30 0x0300
      [(0x0300, 0xEA), (0xFFFA, 0x00), (0xFFFB, 0xA0), (0xFFFE, 0x00), (0xFFFF, 0x90)]).applyEvents [.setIrqLine true, .requestNmi])
      0x00 0x00 0x00 0xFA 0x34 0xA000 false [.write 0x01FD 0x03, .write 0x01FC 0x00, .write 0x01FB 0x20, .read 0xFFFA, .read 0xFFFB] 7 = true := by decide

/-- IN5: stack wraps: 0101, 0100, 01FF. -/
theorem test_IN5_entry : entryGives ((st 0x00 0x00 0x00 0x01 0x30 0x12FF
      [(0x0300, 0xEA), (0xFFFA, 0x00), (0xFFFB, 0xA0), (0xFFFE, 0x00), (0xFFFF, 0x90)]).applyEvents [.setIrqLine true])
      0x00 0x00 0x00 0xFE 0x34 0x9000 false [.write 0x0101 0x12, .write 0x0100 0xFF, .write 0x01FF 0x20, .read 0xFFFE, .read 0xFFFF] 7 = true := by decide

/-- IN6: warm reset: no writes, SP minus 3, I set, other flags and A, X, Y kept (60_exceptions.md rule R208). -/
theorem test_IN6_entry : entryGives ((st 0x11 0x22 0x33 0xFD 0xF3 0x0300
      [(0xFFFC, 0x00), (0xFFFD, 0x80)]).applyEvents [.setResetReq true])
      0x11 0x22 0x33 0xFA 0xF7 0x8000 false [.read 0xFFFC, .read 0xFFFD] 7 = true := by decide

/-- IN7: RESET beats NMI and IRQ and clears the NMI latch; SP 00 minus 3 = FD. -/
theorem test_IN7_entry : entryGives ((st 0x00 0x00 0x00 0x00 0x30 0x0300
      [(0xFFFC, 0x00), (0xFFFD, 0x80)]).applyEvents [.setIrqLine true, .requestNmi, .setResetReq true])
      0x00 0x00 0x00 0xFD 0x34 0x8000 false [.read 0xFFFC, .read 0xFFFD] 7 = true := by decide

/-- IN8: power-on with the default parameters. -/
theorem test_IN8_power_on :
    (let t := coldReset (st 0x12 0x34 0x56 0x78 0xFF 0x9ABC [(0xFFFC, 0x00), (0xFFFD, 0x80)])
     t.a == 0x00 && t.x == 0x00 && t.y == 0x00 && t.sp == 0xFD && t.p == 0x34 && t.pc == 0x8000 && !t.nmiPending &&
      decide (t.accesses = [.read 0xFFFC, .read 0xFFFD]) && t.cycles == 7) = true := by decide

/-- The model's reset state, as 10_state.md R26 tables it over a memory that lists nothing. -/
theorem test_reset_values :
    (State.reset.a, State.reset.x, State.reset.y, State.reset.sp, State.reset.p, State.reset.nmiPending) =
      (0x00, 0x00, 0x00, 0xFD, 0x34, false) := by decide

/-- R41: the NES addresses of the memory-mapped registers, as `State.reset` holds them. -/
theorem test_reset_io_map :
    [0x1FFF, 0x2000, 0x2007, 0x2008, 0x3FFF, 0x4000, 0x4014, 0x4015, 0x4017, 0x4018].map State.reset.isIo =
      [false, true, true, false, false, true, true, true, true, false] := by decide

/-- R31: a load from an I/O address takes the agent's byte and uses up one free value. -/
theorem test_load_from_io :
    exec (.lda (.mem (.abs 0x2002))) State.reset =
      .next (((memRead 0x2002 State.reset).2.setA (Config.ioRead 0 0x2002)).setZN (Config.ioRead 0 0x2002)) := by
  rfl

/-! ### Decoding: words written out from the opcode map (30_encoding.md R55) and the formats (R51) -/

theorem test_decode_load_store :
    decode [0xA9, 0x05] = .ok (.lda (.imm 0x05), []) ∧
    decode [0xA1, 0x20] = .ok (.lda (.mem (.izx 0x20)), []) ∧
    decode [0xB6, 0x10] = .ok (.ldx (.mem (.zpy 0x10)), []) ∧
    decode [0xBC, 0x80, 0x12] = .ok (.ldy (.mem (.abx 0x1280)), []) ∧
    decode [0x8D, 0x34, 0x12] = .ok (.sta (.abs 0x1234), []) ∧
    decode [0x91, 0x86] = .ok (.sta (.izy 0x86), []) ∧
    decode [0x96, 0xF0] = .ok (.stx (.zpy 0xF0), []) ∧
    decode [0x94, 0x80] = .ok (.sty (.zpx 0x80), []) := by
  refine ⟨rfl, rfl, rfl, rfl, rfl, rfl, rfl, rfl⟩

theorem test_decode_transfer :
    decode [0xAA] = .ok (.tax, []) ∧
    decode [0xA8] = .ok (.tay, []) ∧
    decode [0x8A] = .ok (.txa, []) ∧
    decode [0x98] = .ok (.tya, []) ∧
    decode [0xBA] = .ok (.tsx, []) ∧
    decode [0x9A] = .ok (.txs, []) := by
  refine ⟨rfl, rfl, rfl, rfl, rfl, rfl⟩

theorem test_decode_arithmetic_logical :
    decode [0x79, 0xFF, 0x10] = .ok (.adc (.mem (.aby 0x10FF)), []) ∧
    decode [0xE5, 0x7F] = .ok (.sbc (.mem (.zp 0x7F)), []) ∧
    decode [0x2D, 0x01, 0x80] = .ok (.and (.mem (.abs 0x8001)), []) ∧
    decode [0x15, 0x80] = .ok (.ora (.mem (.zpx 0x80)), []) ∧
    decode [0x51, 0xFE] = .ok (.eor (.mem (.izy 0xFE)), []) ∧
    decode [0x2C, 0x34, 0x12] = .ok (.bit (.abs 0x1234), []) := by
  refine ⟨rfl, rfl, rfl, rfl, rfl, rfl⟩

theorem test_decode_shift_inc_dec :
    decode [0x0A] = .ok (.asl .acc, []) ∧
    decode [0x46, 0x10] = .ok (.lsr (.mem (.zp 0x10)), []) ∧
    decode [0x3E, 0xF0, 0x12] = .ok (.rol (.mem (.abx 0x12F0)), []) ∧
    decode [0x76, 0xFF] = .ok (.ror (.mem (.zpx 0xFF)), []) ∧
    decode [0xFE, 0xFF, 0x12] = .ok (.inc (.abx 0x12FF), []) ∧
    decode [0xCE, 0x00, 0x02] = .ok (.dec (.abs 0x0200), []) ∧
    decode [0xE8] = .ok (.inx, []) ∧
    decode [0xC8] = .ok (.iny, []) ∧
    decode [0xCA] = .ok (.dex, []) ∧
    decode [0x88] = .ok (.dey, []) := by
  refine ⟨rfl, rfl, rfl, rfl, rfl, rfl, rfl, rfl, rfl, rfl⟩

theorem test_decode_compare_branch :
    decode [0xC9, 0x30] = .ok (.cmp (.imm 0x30), []) ∧
    decode [0xE4, 0x10] = .ok (.cpx (.mem (.zp 0x10)), []) ∧
    decode [0xCC, 0x01, 0xFF] = .ok (.cpy (.mem (.abs 0xFF01)), []) ∧
    decode [0x90, 0x05] = .ok (.bcc 0x05, []) ∧
    decode [0xB0, 0xFE] = .ok (.bcs 0xFE, []) ∧
    decode [0xF0, 0x03] = .ok (.beq 0x03, []) ∧
    decode [0xD0, 0xFB] = .ok (.bne 0xFB, []) ∧
    decode [0x30, 0x10] = .ok (.bmi 0x10, []) ∧
    decode [0x10, 0x80] = .ok (.bpl 0x80, []) ∧
    decode [0x50, 0x7F] = .ok (.bvc 0x7F, []) ∧
    decode [0x70, 0x10] = .ok (.bvs 0x10, []) := by
  refine ⟨rfl, rfl, rfl, rfl, rfl, rfl, rfl, rfl, rfl, rfl, rfl⟩

theorem test_decode_control_stack :
    decode [0x4C, 0x00, 0xC0] = .ok (.jmp (.abs 0xC000), []) ∧
    decode [0x6C, 0x20, 0x01] = .ok (.jmp (.ind 0x0120), []) ∧
    decode [0x20, 0x34, 0x12] = .ok (.jsr 0x1234, []) ∧
    decode [0x60] = .ok (.rts, []) ∧
    decode [0x48] = .ok (.pha, []) ∧
    decode [0x08] = .ok (.php, []) ∧
    decode [0x68] = .ok (.pla, []) ∧
    decode [0x28] = .ok (.plp, []) ∧
    decode [0x00] = .ok (.brk, []) ∧
    decode [0x40] = .ok (.rti, []) := by
  refine ⟨rfl, rfl, rfl, rfl, rfl, rfl, rfl, rfl, rfl, rfl⟩

theorem test_decode_flag_system :
    decode [0x18] = .ok (.clc, []) ∧
    decode [0x38] = .ok (.sec, []) ∧
    decode [0x58] = .ok (.cli, []) ∧
    decode [0x78] = .ok (.sei, []) ∧
    decode [0xD8] = .ok (.cld, []) ∧
    decode [0xF8] = .ok (.sed, []) ∧
    decode [0xB8] = .ok (.clv, []) ∧
    decode [0xEA] = .ok (.nop, []) ∧
    decode [0x02] = .ok (.unused 0x02, []) ∧
    decode [0xFF] = .ok (.unused 0xFF, []) := by
  refine ⟨rfl, rfl, rfl, rfl, rfl, rfl, rfl, rfl, rfl, rfl⟩

/-- The bits numbered as spec/opcode_table.json numbers them, operand bytes absent: they are 0. -/
theorem test_decodeTableWord : decodeTableWord 8 0xAD = some (.lda (.mem (.abs 0x0000))) ∧
    decodeTableWord 8 0xEA = some .nop ∧ decodeTableWord 24 0x123420 = some (.jsr 0x1234) := by
  refine ⟨rfl, rfl, rfl⟩

/-- What is left in the list follows the instruction; too short a list is refused by name. -/
theorem test_decode_rest_and_errors :
    decode [0xA9, 0x05, 0x8D, 0x00, 0x00] = .ok (.lda (.imm 0x05), [0x8D, 0x00, 0x00]) ∧
    decode [] = .error .noOpcode ∧ decode [0x8D, 0x00] = .error (.missingOperand 0x8D) := by
  refine ⟨rfl, rfl, rfl⟩

/-- Descriptors of four rows of spec/opcode_table.json. -/
theorem test_descriptors :
    descriptor 0xBD = ⟨0xBD, "LDA", .abx, 3, 4, true⟩ ∧ descriptor 0x9D = ⟨0x9D, "STA", .abx, 3, 5, false⟩ ∧
    descriptor 0x00 = ⟨0x00, "BRK", .imp, 1, 7, false⟩ ∧ descriptor 0x80 = ⟨0x80, "UNUSED", .imp, 1, 2, false⟩ := by
  refine ⟨rfl, rfl, rfl, rfl⟩

/-! ### Well-formedness: an operand form the mnemonic lacks is refused (40_addressing_modes.md R84), and has no encoding -/

/-- The terms no check lets through, one for each check. -/
def illFormed : List Instr :=
  [.lda (.mem (.zpy 0)), .ldx (.mem (.abx 0)), .ldy (.mem (.aby 0)), .sta (.zpy 0), .stx (.zpx 0), .sty (.aby 0), .adc (.mem (.zpy 1)), .sbc (.mem (.zpy 2)), .and (.mem (.zpy 3)), .ora (.mem (.zpy 4)), .eor (.mem (.zpy 5))] ++
  [.bit (.abx 0), .asl (.mem (.aby 0)), .lsr (.mem (.izx 0)), .rol (.mem (.izy 0)), .ror (.mem (.zpy 0)), .inc (.aby 0), .dec (.izx 0), .cmp (.mem (.zpy 6)), .cpx (.mem (.zpx 0)), .cpy (.mem (.abx 0)), .unused 0xEA]

theorem test_ill_formed_is_refused : illFormed.all (fun i => !i.wf && (encode i).isNone) = true := by decide

theorem test_well_formed_is_admitted :
    ([.lda (.imm 0), .ldx (.mem (.zpy 0)), .sta (.izy 0), .bit (.abs 0), .ror .acc, .jmp (.ind 0), .unused 0xFF] : List Instr).all
      (fun i => i.wf && (encode i).isSome) = true := by decide

/-! ### Witnesses: states and operands that meet the hypotheses of the statements -/

/-- The state a result answers, the reset state where it answers none. -/
def nextOf (r : Result) : State :=
  match r with
  | .next t => t
  | _ => State.reset

/-- The result is a next state. -/
def isNext (r : Result) : Bool :=
  match r with
  | .next _ => true
  | _ => false

theorem eq_next {r : Result} (h : isNext r = true) : r = .next (nextOf r) := by
  cases r with
  | next t => rfl
  | fault f => cases h
  | refused q => cases h

/-- A state over plain memory: A = 0x80, X = 0x02, Y = 0x01, SP = 0x00, carry set, ADC #$80 at 0x00FE. -/
def w0 : State := st 0x80 0x02 0x01 0x00 0x35 0x00FE [(0x00FE, 0x69), (0x00FF, 0x80)]

/-- EncodeThenDecodeGivesInstruction, DecodeThenEncodeGivesBytes: a three-byte form and an unused byte. -/
theorem test_witness_encode :
    (Instr.lda (.mem (.aby 0xFFFF))).WellFormed ∧ (Instr.unused 0xFF).WellFormed ∧
    ∃ bytes rest i, decode bytes = .ok (i, rest) ∧ rest = [0x11] :=
  ⟨by decide, by decide, [0xB9, 0xFF, 0xFF, 0x11], _, _, rfl, rfl⟩

/-- UnusedAndNopDoNothing: the first and the last unused byte. -/
theorem test_witness_unused : (0x02 : Byte) ∈ unusedOpcodes ∧ (0xFF : Byte) ∈ unusedOpcodes := by decide

/-- StepRunsTheDecodedInstruction, PcAdvancesByLength first clause: plain memory, PC at a page end. -/
theorem w0_steps : step w0 = .next (nextOf (step w0)) := eq_next (by decide)

theorem test_witness_step_runs_bytes : fetchedBytes w0 = [0x69, 0x80, 0x00] := by decide

/-- StepRunsTheDecodedInstruction, PcAdvancesByLength first clause, with the bytes above. -/
theorem test_witness_step_runs :
    NoEntry w0 ∧ decode (fetchedBytes w0) = .ok (.adc (.imm 0x80), [0x00]) ∧
    PlainAt w0 [w0.pc, w0.pc + 1#16, w0.pc + 2#16] ∧ step w0 = .next (nextOf (step w0)) ∧
    (Instr.adc (.imm 0x80)).setsPc = false ∧ (Instr.adc (.imm 0x80)).branchTest = none :=
  ⟨⟨rfl, rfl, .inl rfl⟩, by rw [test_witness_step_runs_bytes]; rfl, fun _ _ => rfl, w0_steps, by decide, by decide⟩

/-- A branch not taken at 0xFFFE, with an IRQ masked by I. -/
def wBeq : State := (st 0 0 0 0 0x34 0xFFFE [(0xFFFE, 0xF0), (0xFFFF, 0x05)]).applyEvent (.setIrqLine true)

theorem test_witness_branch_bytes : fetchedBytes wBeq = [0xF0, 0x05, 0x00] := by decide

/-- PcAdvancesByLength, second clause. -/
theorem test_witness_branch_not_taken :
    NoEntry wBeq ∧ wBeq.irqLine = true ∧ decode (fetchedBytes wBeq) = .ok (.beq 0x05, [0x00]) ∧
      step wBeq = .next (nextOf (step wBeq)) ∧ (Instr.beq 0x05).branchTest = some (.Z, true) ∧ wBeq.flag .Z ≠ true :=
  ⟨⟨rfl, rfl, .inr (by decide)⟩, rfl, by rw [test_witness_branch_bytes]; rfl, eq_next (by decide), rfl, by decide⟩

/-- StepRecognisesByPriority, one state for each clause; WarmResetStep takes the first. -/
theorem test_witness_priority :
    (∃ s : State, s.resetReq = true) ∧
    (∃ s : State, s.resetReq = false ∧ s.nmiPending = true) ∧
    (∃ s : State, s.resetReq = false ∧ s.nmiPending = false ∧ s.irqLine = true ∧ s.flag .I = false) ∧
    (∃ s : State, s.resetReq = false ∧ s.nmiPending = false ∧ (s.irqLine = false ∨ s.flag .I = true)) :=
  ⟨⟨w0.applyEvents [.setResetReq true, .requestNmi], rfl⟩, ⟨w0.applyEvents [.requestNmi, .setIrqLine true], rfl, rfl⟩,
    ⟨(st 0 0 0 0 0x30 0 []).applyEvent (.setIrqLine true), rfl, rfl, rfl, by decide⟩,
    ⟨w0.applyEvent (.setIrqLine true), rfl, rfl, .inr (by decide)⟩⟩

/-- InterruptSequenceEffect, BrkTakesTheInterruptSequence: a BRK at 0xFFFF, where PC has wrapped. -/
theorem test_witness_brk : ∃ (pc0 : Word) (s : State), s.pc = pc0 + 1#16 :=
  ⟨0xFFFF, st 0 0 0 0 0x34 0x0000 [], by decide⟩

/-- ResetStateIsPowerOn. -/
theorem test_witness_reset : ∃ s : State, s.mem = [] ∧ s.ioRegions = Config.nesIoRegions ∧ s.ioReads = 0 ∧
    s.irqLine = false ∧ s.resetReq = false :=
  ⟨State.reset, rfl, rfl, rfl, rfl, rfl⟩

/-- EveryStepKeepsInvariant, and a memory that is not empty. -/
theorem test_witness_invariant : w0.Inv ∧ w0.mem ≠ [] ∧ step w0 = .next (nextOf (step w0)) :=
  ⟨⟨by decide, by decide⟩, by decide, w0_steps⟩

/-- ReachableStatesAreSafe: a state that power-on reaches, and one a step and an event away from a constructed state. -/
theorem test_witness_reachable :
    Reachable (coldReset w0) ∧ Reachable ((nextOf (step w0)).applyEvent .requestNmi) :=
  ⟨.powerOn w0 (by decide),
    .event _ (.step (.constructed 0x80 0x02 0x01 0x00 0x35 0x00FE _ [] (by decide)) (w0_steps : step w0 = _))⟩

/-- EveryStepCostsTwoToSeven: both ends are met, an immediate and a BRK. -/
theorem test_witness_cycles_two : step w0 = .next (nextOf (step w0)) ∧ (nextOf (step w0)).cycles = 2 :=
  ⟨w0_steps, by decide⟩

def wBrk : State := st 0 0 0 0 0x34 0x0000 []

theorem test_witness_cycles_seven : step wBrk = .next (nextOf (step wBrk)) ∧ (nextOf (step wBrk)).cycles = 7 :=
  ⟨eq_next (by decide), by decide⟩

/-- OnlyListedInstructionsWriteRegisters, one instruction for each register; InstructionsKeepInputs. -/
theorem test_witness_registers :
    (∃ t, exec .pla w0 = .next t ∧ t.reg .A ≠ w0.reg .A) ∧ (∃ t, exec .inx w0 = .next t ∧ t.reg .X ≠ w0.reg .X) ∧
    (∃ t, exec .dey w0 = .next t ∧ t.reg .Y ≠ w0.reg .Y) ∧ (∃ t, exec .txs w0 = .next t ∧ t.reg .SP ≠ w0.reg .SP) :=
  ⟨⟨_, rfl, by decide⟩, ⟨_, rfl, by decide⟩, ⟨_, rfl, by decide⟩, ⟨_, rfl, by decide⟩⟩

/-- OnlyListedInstructionsWriteFlags, one instruction for each flag. -/
theorem test_witness_flags :
    (∃ t, exec .clc w0 = .next t ∧ t.flag .C ≠ w0.flag .C) ∧ (∃ t, exec (.lda (.imm 0)) w0 = .next t ∧ t.flag .Z ≠ w0.flag .Z) ∧
    (∃ t, exec .cli w0 = .next t ∧ t.flag .I ≠ w0.flag .I) ∧ (∃ t, exec .sed w0 = .next t ∧ t.flag .D ≠ w0.flag .D) ∧
    (∃ t, exec (.adc (.imm 0x80)) w0 = .next t ∧ t.flag .V ≠ w0.flag .V) ∧
    (∃ t, exec (.lda (.imm 0x80)) w0 = .next t ∧ t.flag .N ≠ w0.flag .N) :=
  ⟨⟨_, rfl, by decide⟩, ⟨_, rfl, by decide⟩, ⟨_, rfl, by decide⟩, ⟨_, rfl, by decide⟩, ⟨_, rfl, by decide⟩,
    ⟨_, rfl, by decide⟩⟩

/-- OnlyListedInstructionsWriteMemory, and a store at the top of memory. -/
theorem test_witness_memory :
    ∃ t, exec (.sta (.abs 0xFFFF)) w0 = .next t ∧ t.mem ≠ w0.mem ∧ t.mem.read 0xFFFF = 0x80 :=
  ⟨_, rfl, by decide, by decide⟩

/-- The rows of an encoding: an instruction of the first and of the last mode of each kind of list. -/
theorem test_witness_rows :
    (Instr.lda (.imm 0)).mode = .imm ∧ (Instr.lda (.mem (.izy 0))).mode = .izy ∧ (Instr.asl .acc).mode = .acc ∧
    (Instr.sta (.zp 0)).mode = .zp ∧ (Instr.bit (.abs 0)).mode = .abs ∧ (Instr.jmp (.ind 0)).mode = .ind := by decide

/-- BusAnswersLatestWriteOrAgent: an address in the map and, one below it, an address outside it. -/
theorem test_witness_bus :
    State.reset.isIo 0x2000 = true ∧ State.reset.isIo 0x1FFF = false ∧ (0x1FFF : Word) ≠ 0x2000 := by decide

/-- LoadThenStoreKeepsTheValue, for each of the three registers. -/
theorem test_witness_load_store :
    (∃ t u, exec (.lda (.mem (.zpx 0xFD))) w0 = .next t ∧ exec (.sta (.abs 0x0200)) t = .next u) ∧
    (∃ t u, exec (.ldx (.imm 0xFF)) w0 = .next t ∧ exec (.stx (.zpy 0xFF)) t = .next u) ∧
    (∃ t u, exec (.ldy (.imm 0x00)) w0 = .next t ∧ exec (.sty (.zpx 0xFF)) t = .next u) :=
  ⟨⟨_, _, rfl, rfl⟩, ⟨_, _, rfl, rfl⟩, ⟨_, _, rfl, rfl⟩⟩

/-- OverflowIsSignedOutOfRange, SbcIsAdcOfComplement, ArithmeticIgnoresDecimalFlag: -128 + -128 + 1 and -128 - 1 - 0. -/
theorem test_witness_arithmetic :
    (∃ t, exec (.adc (.imm 0x80)) w0 = .next t ∧ t.flag .V = true ∧ t.a = 0x01) ∧
    (∃ t, exec (.sbc (.imm 0x01)) w0 = .next t ∧ t.flag .V = true ∧ t.a = 0x7F) :=
  ⟨⟨_, rfl, by decide, by decide⟩, ⟨_, rfl, by decide, by decide⟩⟩

/-- OppositeRotatesCancel, both orders. -/
theorem test_witness_rotates :
    (∃ t u, exec (.rol .acc) w0 = .next t ∧ exec (.ror .acc) t = .next u) ∧
    (∃ t u, exec (.ror .acc) w0 = .next t ∧ exec (.rol .acc) t = .next u) :=
  ⟨⟨_, _, rfl, rfl⟩, ⟨_, _, rfl, rfl⟩⟩

/-- CompareAgreesWithSubtraction: less, equal and greater. -/
theorem test_witness_compare :
    ∀ m ∈ [(0x81 : Byte), 0x80, 0x00], ∃ t u v, exec (.cmp (.imm m)) w0 = .next t ∧ exec .sec w0 = .next u ∧
      exec (.sbc (.imm m)) u = .next v :=
  fun _ _ => ⟨_, _, _, rfl, rfl, rfl⟩

/-- BranchesTestOneFlag: taken with the largest displacement into another page (4 cycles in all), taken to the next
instruction (3), not taken (2); PC wraps. -/
theorem test_witness_branches :
    ∃ (pc0 : Word) (s : State), s.pc = pc0 + 2#16 ∧
      (∃ t, exec (.bcs 0x7F) s = .next t ∧ t.pc = 0x007E ∧ t.cycles = s.cycles + 2) ∧
      (∃ t, exec (.bcs 0x00) s = .next t ∧ t.pc = s.pc ∧ t.cycles = s.cycles + 1) ∧
      (∃ t, exec (.bcc 0x80) s = .next t ∧ t.pc = s.pc ∧ t.cycles = s.cycles) :=
  ⟨0xFFFD, st 0 0 0 0 0x35 0xFFFF [], by decide, ⟨_, rfl, by decide, by decide⟩, ⟨_, rfl, by decide, by decide⟩,
    ⟨_, rfl, by decide, by decide⟩⟩

/-- The state of a JSR at 0x00FC that PC has passed, with the stack at its wrap, and the state after it. -/
def wJsr : State := st 0 0 0 0x00 0x34 0x00FF []
def wSub : State := nextOf (exec (.jsr 0x1234) wJsr)

theorem wSub_io : wSub.ioRegions = [] := by decide

/-- JsrPushesReturnAddress, RtsReturnsAfterJsr: the empty subroutine. -/
theorem test_witness_jsr_rts :
    wJsr.pc = 0x00FC + 3#16 ∧ exec (.jsr 0x1234) wJsr = .next wSub ∧
      (∀ addr ∈ [stackAddr wJsr.sp, stackAddr (wJsr.sp - 1#8)], wSub.isIo addr = false) ∧
      ∃ u, exec .rts wSub = .next u :=
  ⟨by decide, rfl, fun _ _ => by rw [State.isIo, wSub_io]; rfl, _, rfl⟩

/-- PushThenPullRestores, both clauses; the pull wraps SP. -/
theorem test_witness_push_pull :
    w0.isIo (stackAddr w0.sp) = false ∧ w0.p &&& 0x30 = 0x30 ∧
    (∃ t u, exec .pha w0 = .next t ∧ exec .pla t = .next u) ∧ (∃ t u, exec .php w0 = .next t ∧ exec .plp t = .next u) :=
  ⟨by decide, by decide, ⟨_, _, rfl, rfl⟩, ⟨_, _, rfl, rfl⟩⟩

/-- PullsIncrementThenRead, RtiPullsFlagsAndPc: the values named by the hypotheses exist in every state; here in `w0`. -/
theorem test_witness_pulls :
    ∃ (v : Byte) (s1 s2 : State), v = w0.busAnswer (stackAddr (w0.sp + 1#8)) ∧
      s1 = w0.noteRead (stackAddr (w0.sp + 1#8)) ∧ s2 = s1.noteRead (stackAddr (w0.sp + 2#8)) :=
  ⟨_, _, _, rfl, rfl, rfl⟩

/-- A state in which an NMI, and one in which an IRQ, is taken. -/
def wNmi : State := w0.applyEvent .requestNmi
def wIrq : State := (st 0 0 0 0x01 0x30 0x12FF [(0xFFFE, 0x00), (0xFFFF, 0x90)]).applyEvent (.setIrqLine true)

/-- The states the two entries leave. -/
def tNmi : State := nextOf (step wNmi)
def tIrq : State := nextOf (step wIrq)

theorem tNmi_io : tNmi.ioRegions = [] := by decide
theorem tIrq_io : tIrq.ioRegions = [] := by decide

theorem wNmi_steps : step wNmi = .next tNmi := eq_next (by decide)
theorem wIrq_steps : step wIrq = .next tIrq := eq_next (by decide)

/-- RtiResumesTheInterruptedProgram: the entries happen as its hypotheses say, NMI first clause, IRQ second. -/
theorem test_witness_resume_entries :
    wNmi.Inv ∧ wNmi.resetReq = false ∧ wNmi.nmiPending = true ∧ wIrq.Inv ∧ wIrq.resetReq = false ∧ wIrq.irqLine = true ∧
      wIrq.flag .I = false ∧ step wNmi = .next tNmi ∧ step wIrq = .next tIrq :=
  ⟨⟨by decide, by decide⟩, rfl, rfl, ⟨by decide, by decide⟩, rfl, rfl, by decide, wNmi_steps, wIrq_steps⟩

/-- RtiResumesTheInterruptedProgram: the empty handler (`t' = t`) after the NMI meets the rest, and RTI answers. -/
theorem test_witness_resume_nmi :
    (∀ addr ∈ [stackAddr wNmi.sp, stackAddr (wNmi.sp - 1#8), stackAddr (wNmi.sp - 2#8)], tNmi.isIo addr = false) ∧
      ∃ u, exec .rti tNmi = .next u :=
  ⟨fun _ _ => by rw [State.isIo, tNmi_io]; rfl, _, rfl⟩

/-- RtiResumesTheInterruptedProgram: the same after the IRQ. -/
theorem test_witness_resume_irq :
    (∀ addr ∈ [stackAddr wIrq.sp, stackAddr (wIrq.sp - 1#8), stackAddr (wIrq.sp - 2#8)], tIrq.isIo addr = false) ∧
      ∃ u, exec .rti tIrq = .next u :=
  ⟨fun _ _ => by rw [State.isIo, tIrq_io]; rfl, _, rfl⟩

/-- EventsChangeOnlyTheirTarget: a pending NMI, and two addresses at the ends of memory. -/
theorem test_witness_events : wNmi.nmiPending = true ∧ (0xFFFF : Word) ≠ 0x0000 := by decide


/-- InterruptMaskActsAtTheNextStep: CLI, and SEI, with IRQ requested and nothing of higher priority. -/
theorem test_witness_mask :
    wBeq.resetReq = false ∧ wBeq.nmiPending = false ∧ wBeq.irqLine = true ∧
    (∃ t, exec .cli wBeq = .next t ∧ t.flag .I = false) ∧ (∃ t, exec .sei wBeq = .next t ∧ t.flag .I = true) :=
  ⟨rfl, rfl, rfl, ⟨_, rfl, by decide⟩, ⟨_, rfl, by decide⟩⟩

/-- UnusedAndNopDoNothing, the clauses about a step: an unused byte at 0xFFFF, and a NOP. -/
theorem test_witness_unused_step :
    NoEntry (st 0 0 0 0 0x34 0xFFFF [(0xFFFF, 0x02)]) ∧
    (st 0 0 0 0 0x34 0xFFFF [(0xFFFF, 0x02)]).busAnswer 0xFFFF = 0x02 ∧ (0x02 : Byte) ∈ unusedOpcodes ∧
    NoEntry (st 0 0 0 0 0x34 0x0000 [(0x0000, 0xEA)]) ∧
    (st 0 0 0 0 0x34 0x0000 [(0x0000, 0xEA)]).busAnswer 0x0000 = 0xEA :=
  ⟨⟨rfl, rfl, .inl rfl⟩, by decide, by decide, ⟨rfl, rfl, .inl rfl⟩, by decide⟩

/-- UnusedAndNopDoNothing, its second clause; ZeroPageModesStayInPageZero, its last. -/
theorem test_witness_unused_decodes :
    decode [0x02, 0xA9] = .ok (.unused 0x02, [0xA9]) ∧ (Instr.ldx (.mem (.zpy 0))).WellFormed ∧
    (Instr.ldx (.mem (.zpy 0))).mode = .zpy :=
  ⟨rfl, by decide, rfl⟩


/-- EventsChangeOnlyTheirTarget: each event changes something somewhere. -/
theorem test_witness_events_change :
    w0.nmiPending = false ∧ (w0.applyEvent .requestNmi).nmiPending = true ∧ w0.irqLine = false ∧
    (w0.applyEvent (.setIrqLine true)).irqLine = true ∧ w0.resetReq = false ∧
    (w0.applyEvent (.setResetReq true)).resetReq = true ∧ w0.mem.read 0xFFFF ≠ 0x01 ∧
    (w0.applyEvent (.writeMemory 0xFFFF 0x01)).mem.read 0xFFFF = 0x01 := by decide

/-- INC $00FF at 0x0200, which an event sets to 0xFF just before the step. -/
def wInc : State := st 0 0 0 0 0x34 0x0200 [(0x0200, 0xE6), (0x0201, 0xFF)]

def wIncEvents : List EnvEvent := [.setIrqLine true, .writeMemory 0x00FF 0xFF]

theorem test_witness_rmw_bytes : fetchedBytes (wInc.applyEvents wIncEvents) = [0xE6, 0xFF, 0x00] := by decide

/-- ReadModifyWriteIsOneStep. -/
theorem test_witness_rmw :
    NoEntry (wInc.applyEvents wIncEvents) ∧
    decode (fetchedBytes (wInc.applyEvents wIncEvents)) = .ok (.inc (.zp 0xFF), [0x00]) ∧
    (wInc.applyEvents wIncEvents).mem.read 0x00FF = 0xFF :=
  ⟨⟨rfl, rfl, .inr (by decide)⟩, by rw [test_witness_rmw_bytes]; rfl, by decide⟩

end Sys2Proof.Tests
end

/-! SUPPORT. The fetch and the bytes it decodes (00_scope.md R9): the state an instruction finds, and the obligations on a
step that runs one. -/

namespace Sys2Proof

/-- Three bytes always hold an instruction, the longest being three bytes (30_encoding.md R50, R53). -/
theorem decode_three_bytes_ok (op b c : Byte) : ∃ i rest, decode [op, b, c] = .ok (i, rest) := by
  have hb := opcodeLength_bounds op
  obtain h | h | h : opcodeLength op = 1 ∨ opcodeLength op = 2 ∨ opcodeLength op = 3 := by omega
  · exact ⟨_, _, decode_one h _⟩
  · exact ⟨_, _, decode_two h _ _⟩
  · exact ⟨_, _, decode_three h _ _ _⟩

/-- What `decode` reads from three bytes: an entry of the opcode map, whose length says which operand bytes count. -/
theorem decode_three_bytes_cases {op b c : Byte} {i : Instr} {rest : List Byte} (h : decode [op, b, c] = .ok (i, rest)) :
    i.length = opcodeLength op ∧
      (opcodeLength op = 1 ∧ i = instrOf op 0 0 ∨ opcodeLength op = 2 ∧ i = instrOf op b 0 ∨
        opcodeLength op = 3 ∧ i = instrOf op b c) := by
  have hb := opcodeLength_bounds op
  obtain hl | hl | hl : opcodeLength op = 1 ∨ opcodeLength op = 2 ∨ opcodeLength op = 3 := by omega
  · obtain ⟨rfl, -⟩ : instrOf op 0 0 = i ∧ _ := by simpa [decode_one hl] using h
    exact ⟨(instrOf_good op 0 0).1, .inl ⟨hl, rfl⟩⟩
  · obtain ⟨rfl, -⟩ : instrOf op b 0 = i ∧ _ := by simpa [decode_two hl] using h
    exact ⟨(instrOf_good op b 0).1, .inr (.inl ⟨hl, rfl⟩)⟩
  · obtain ⟨rfl, -⟩ : instrOf op b c = i ∧ _ := by simpa [decode_three hl] using h
    exact ⟨(instrOf_good op b c).1, .inr (.inr ⟨hl, rfl⟩)⟩

end Sys2Proof

namespace Sys2Proof.Machine

/-! ### Reads one after another -/

theorem foldl_noteRead_accesses (addrs : List Word) (s : State) :
    (addrs.foldl State.noteRead s).accesses = s.accesses ++ addrs.map .read := by
  induction addrs generalizing s with
  | nil => simp
  | cons w ws ih => simp [ih]

/-! ### The fetch, by the length the opcode byte asks for (30_encoding.md R50) -/

section fetching

variable {s : State}

theorem fetch_one (h : opcodeLength (s.busAnswer s.pc) = 1) :
    fetch s = (instrOf (s.busAnswer s.pc) 0 0,
      ((s.noteRead s.pc).setPc (s.pc + 1#16)).addCycles (baseCycles (s.busAnswer s.pc))) := by
  simp [fetch, memRead, h]

theorem fetch_two (h : opcodeLength (s.busAnswer s.pc) = 2) :
    fetch s = (instrOf (s.busAnswer s.pc) ((s.noteRead s.pc).busAnswer (s.pc + 1#16)) 0,
      (((s.noteRead s.pc).noteRead (s.pc + 1#16)).setPc (s.pc + 2#16)).addCycles (baseCycles (s.busAnswer s.pc))) := by
  simp [fetch, memRead, h]

theorem fetch_three (h : opcodeLength (s.busAnswer s.pc) = 3) :
    fetch s = (instrOf (s.busAnswer s.pc) ((s.noteRead s.pc).busAnswer (s.pc + 1#16))
        (((s.noteRead s.pc).noteRead (s.pc + 1#16)).busAnswer (s.pc + 2#16)),
      ((((s.noteRead s.pc).noteRead (s.pc + 1#16)).noteRead (s.pc + 2#16)).setPc (s.pc + 3#16)).addCycles
        (baseCycles (s.busAnswer s.pc))) := by
  simp [fetch, memRead, h]

end fetching

/-! ### The state an instruction finds -/

@[simp] theorem State.advanced_pc (s : State) (i : Instr) : (s.advanced i).pc = s.pc + BitVec.ofNat 16 i.length := rfl

theorem State.advanced_accesses (s : State) (i : Instr) :
    (s.advanced i).accesses = (List.range i.length).map (fun k => .read (s.pc + BitVec.ofNat 16 k)) := by
  have hreads := foldl_noteRead_accesses ((List.range i.length).map fun k => s.pc + BitVec.ofNat 16 k) s.beginStep
  simpa [State.advanced, Function.comp_def] using hreads

/-- Fetching yields the instruction the three bytes at PC decode to, and the state that instruction finds. -/
theorem fetch_of_decode {s : State} {i : Instr} {rest : List Byte} (h : decode (fetchedBytes s) = .ok (i, rest)) :
    fetch s.beginStep = (i, s.advanced i) := by
  obtain ⟨hlen, ⟨hop, hi⟩ | ⟨hop, hi⟩ | ⟨hop, hi⟩⟩ := decode_three_bytes_cases h
  · rw [fetch_one (s := s.beginStep) hop]
    exact Prod.ext hi.symm (by simp [State.advanced, hlen, hop])
  · rw [fetch_two (s := s.beginStep) hop]
    exact Prod.ext hi.symm (by simp [State.advanced, hlen, hop, List.range_succ])
  · rw [fetch_three (s := s.beginStep) hop]
    exact Prod.ext hi.symm (by simp [State.advanced, hlen, hop, List.range_succ])

/-! ### The step that runs it -/

theorem recognise_of_noEntry {s : State} (h : NoEntry s) : recognise s = none := by
  obtain ⟨hreset, hnmi, hirq⟩ := h
  rcases hirq with hirq | hirq <;> simp [recognise, hreset, hnmi, hirq]

theorem step_of_decode {s : State} {i : Instr} {rest : List Byte} (hno : NoEntry s)
    (h : decode (fetchedBytes s) = .ok (i, rest)) : step s = exec i (s.advanced i) := by
  rw [step_of_no_entry (recognise_of_noEntry hno), fetch_of_decode h]

/-- Outside `IO_REGIONS` the fetched bytes are the stored ones (20_memory.md R31). -/
theorem fetchedBytes_plain {s : State} (h : PlainAt s [s.pc, s.pc + 1#16, s.pc + 2#16]) :
    fetchedBytes s = [s.mem.read s.pc.toNat, s.mem.read (s.pc + 1#16).toNat, s.mem.read (s.pc + 2#16).toNat] := by
  have h0 : s.isIo s.pc = false := h _ (by simp)
  have h1 : s.isIo (s.pc + 1#16) = false := h _ (by simp)
  have h2 : s.isIo (s.pc + 2#16) = false := h _ (by simp)
  simp [fetchedBytes, State.busAnswer, h0, h1, h2]

/-! ### An instruction placed at PC (log entry 14) -/

theorem any_withoutIoAt_self (addr : Word) (rs : List IoRegion) :
    (withoutIoAt addr rs).any (regionCovers · addr) = false := by
  simp [withoutIoAt]

theorem any_withoutIoAt_of_any_false {addr : Word} {rs : List IoRegion} (h : rs.any (regionCovers · addr) = false)
    (other : Word) : (withoutIoAt other rs).any (regionCovers · addr) = false := by
  simp only [List.any_eq_false] at h ⊢
  exact fun r hr => h r (List.mem_of_mem_filter hr)

section placing

variable (s : State) (b0 b1 b2 : Byte)

theorem placeAtPc_noEntry : NoEntry (s.placeAtPc b0 b1 b2) := ⟨rfl, rfl, .inl rfl⟩

theorem placeAtPc_plainAt : PlainAt (s.placeAtPc b0 b1 b2) [s.pc, s.pc + 1#16, s.pc + 2#16] := by
  simp only [PlainAt, List.forall_mem_cons]
  refine ⟨?_, ?_, ?_, by simp⟩
  · exact any_withoutIoAt_self _ _
  · exact any_withoutIoAt_of_any_false (any_withoutIoAt_self _ _) _
  · exact any_withoutIoAt_of_any_false (any_withoutIoAt_of_any_false (any_withoutIoAt_self _ _) _) _

/-- The three fetch addresses differ, also where PC wraps, so no placed byte overwrites another. -/
theorem fetchedBytes_placeAtPc : fetchedBytes (s.placeAtPc b0 b1 b2) = [b0, b1, b2] := by
  have h01 : s.pc ≠ s.pc + 1#16 := by bv_omega
  have h02 : s.pc ≠ s.pc + 2#16 := by bv_omega
  have h12 : s.pc + 1#16 ≠ s.pc + 2#16 := by bv_omega
  rw [fetchedBytes_plain (placeAtPc_plainAt s b0 b1 b2)]
  simp only [State.placeAtPc, Memory.read_write_word, h01, h02, h12, if_true, if_false]

end placing

end Sys2Proof.Machine

namespace Sys2Proof

open Machine

/-- Settles O6: `fetch` is the decoder on the bytes at PC together with `State.advanced`, whatever the length. -/
theorem stepRunsTheDecodedInstruction : Obligations.StepRunsTheDecodedInstruction := by
  intro s i rest hno hdec
  exact ⟨step_of_decode hno hdec, State.advanced_pc s i, State.advanced_accesses s i, fetchedBytes_plain⟩

/-- Settles O7: the placed bytes are the very ones the next step fetches, and three bytes always decode. -/
theorem placedInstructionIsRunNext : Obligations.PlacedInstructionIsRunNext := by
  intro s nbits w
  obtain ⟨i, rest, hdec⟩ := decode_three_bytes_ok (tableByte nbits w 0) (tableByte nbits w 1) (tableByte nbits w 2)
  have hfetched : decode (fetchedBytes (s.withFetchWord nbits w)) = .ok (i, rest) := by
    rw [State.withFetchWord, fetchedBytes_placeAtPc, hdec]
  exact ⟨i, by simp [decodeTableWord, hdec], step_of_decode (placeAtPc_noEntry s _ _ _) hfetched⟩

end Sys2Proof

/-! SUPPORT. What an instruction may do, said once: a sequence of the model's updates, each of them one the spec's tables
(10_state.md R11, R14, R18, R22) list for it. What every instruction keeps follows by induction over those updates. -/

namespace Sys2Proof

open Machine

/-- PLP and RTI, which load P whole, stand in the list of every flag. -/
theorem Instr.writesFlag_of_loadsStatus {i : Instr} (h : i.isOneOf ["PLP", "RTI"] = true) (f : Flag) :
    i.writesFlag f = true := by
  have hname : i.mnemonic = "PLP" ∨ i.mnemonic = "RTI" := by simpa [Instr.isOneOf] using h
  rcases hname with hname | hname <;> cases f <;> simp [Instr.writesFlag, Instr.isOneOf, zeroNegativeWriters, hname]

theorem MemMode.mode_ne_acc (m : MemMode) : m.mode ≠ .acc := by
  cases m <;> simp [MemMode.mode]

end Sys2Proof

namespace Sys2Proof.Machine

/-! ### The facts of the tables and of P that the sequences need -/

theorem putFlag_fixed_bit (p : Byte) (f : Flag) (b : Bool) {n : Nat} (hn : n = 4 ∨ n = 5) :
    (putFlag p f b).getLsbD n = p.getLsbD n := by
  rcases hn with rfl | rfl <;> simp

theorem statusFromStack_fixed_bit (v : Byte) {n : Nat} (hn : n = 4 ∨ n = 5) : (statusFromStack v).getLsbD n = true := by
  obtain ⟨h4, h5⟩ := (fixed_bits_iff _).1 (statusFromStack_fixed v)
  rcases hn with rfl | rfl
  · exact h4
  · exact h5


/-- `t` is reached from `s` by updates the tables list for the instruction `i`. That a table lists `i` is found by evaluating
the table. -/
inductive ListedUpdates (i : Instr) (s : State) : State → Prop where
  | refl : ListedUpdates i s s
  | noteRead {t : State} (h : ListedUpdates i s t) (w : Word) : ListedUpdates i s (t.noteRead w)
  | addCycles {t : State} (h : ListedUpdates i s t) (n : Nat) : ListedUpdates i s (t.addCycles n)
  | setA {t : State} (h : ListedUpdates i s t) (v : Byte) (listed : i.writesReg .A = true := by rfl) :
      ListedUpdates i s (t.setA v)
  | setX {t : State} (h : ListedUpdates i s t) (v : Byte) (listed : i.writesReg .X = true := by rfl) :
      ListedUpdates i s (t.setX v)
  | setY {t : State} (h : ListedUpdates i s t) (v : Byte) (listed : i.writesReg .Y = true := by rfl) :
      ListedUpdates i s (t.setY v)
  | setSp {t : State} (h : ListedUpdates i s t) (v : Byte) (listed : i.writesReg .SP = true := by rfl) :
      ListedUpdates i s (t.setSp v)
  | setFlag {t : State} (h : ListedUpdates i s t) (f : Flag) (b : Bool) (listed : i.writesFlag f = true := by rfl) :
      ListedUpdates i s (t.setFlag f b)
  | loadStatus {t : State} (h : ListedUpdates i s t) (v : Byte) (listed : i.isOneOf ["PLP", "RTI"] = true := by rfl) :
      ListedUpdates i s (t.setP (statusFromStack v))
  | setPc {t : State} (h : ListedUpdates i s t) (w : Word)
      (listed : (i.setsPc || i.branchTest.isSome) = true := by rfl) : ListedUpdates i s (t.setPc w)
  | memWrite {t : State} (h : ListedUpdates i s t) (w : Word) (v : Byte)
      (listed : i.writesMemory = true := by rfl) : ListedUpdates i s (memWrite w v t)

namespace ListedUpdates

/-! ### The shared operations are such sequences -/

section operations

variable {i : Instr} {s t : State} (h : ListedUpdates i s t)
include h

theorem setZN (v : Byte) (hz : i.writesFlag .Z = true := by rfl) (hn : i.writesFlag .N = true := by rfl) :
    ListedUpdates i s (t.setZN v) :=
  (h.setFlag _ _ hz).setFlag _ _ hn

theorem resolve (m : MemMode) : ListedUpdates i s (resolve m t).2 := by
  cases m with
  | izx b | izy b => exact (h.noteRead _).noteRead _
  | zp b | zpx b | zpy b | abs w | abx w | aby w => exact h

theorem readMem (m : MemMode) : ListedUpdates i s (readMem m t).2 := ((h.resolve m).addCycles _).noteRead _

theorem readSource (src : Source) : ListedUpdates i s (readSource src t).2 := by
  cases src with
  | imm v => exact h
  | mem m => exact h.readMem m

theorem storeTo (m : MemMode) (v : Byte) (hm : i.writesMemory = true := by rfl) :
    ListedUpdates i s (storeTo m v t) :=
  (h.resolve m).memWrite _ _ hm

theorem updateMem (m : MemMode) (f : Byte → Byte) (hm : i.writesMemory = true := by rfl) :
    ListedUpdates i s (updateMem m f t).2 :=
  ((h.resolve m).noteRead _).memWrite _ _ hm

/-- A shift or rotate writes A in accumulator mode and memory in every other, as the tables have it. -/
theorem updatePlace (pl : Place) (f : Byte → Byte) (hname : i.isOneOf ["ASL", "LSR", "ROL", "ROR"] = true := by rfl)
    (hmode : i.mode = pl.mode := by rfl) : ListedUpdates i s (updatePlace pl f t).2 := by
  cases pl with
  | acc =>
    have ha : i.mode = .acc := hmode
    exact h.setA _ (by simp [Instr.writesReg, hname, ha])
  | mem m =>
    have hm : i.mode ≠ .acc := hmode ▸ m.mode_ne_acc
    exact h.updateMem m f (by simp [Instr.writesMemory, hname, hm])

theorem push (v : Byte) (hm : i.writesMemory = true := by rfl) (hsp : i.writesReg .SP = true := by rfl) :
    ListedUpdates i s (push v t) :=
  (h.memWrite _ _ hm).setSp _ hsp

theorem pushWord (w : Word) (hm : i.writesMemory = true := by rfl) (hsp : i.writesReg .SP = true := by rfl) :
    ListedUpdates i s (pushWord w t) :=
  (h.push _ hm hsp).push _ hm hsp

theorem pull (hsp : i.writesReg .SP = true := by rfl) : ListedUpdates i s (pull t).2 := (h.setSp _ hsp).noteRead _

theorem pullWord (hsp : i.writesReg .SP = true := by rfl) : ListedUpdates i s (pullWord t).2 := (h.pull hsp).pull hsp

theorem addWithCarry (m : Byte) (ha : i.writesReg .A = true := by rfl) (hc : i.writesFlag .C = true := by rfl)
    (hv : i.writesFlag .V = true := by rfl) (hz : i.writesFlag .Z = true := by rfl)
    (hn : i.writesFlag .N = true := by rfl) : ListedUpdates i s (t.addWithCarry m) :=
  (((h.setFlag _ _ hc).setFlag _ _ hv).setA _ ha).setZN _ hz hn

theorem compare (r m : Byte) (hc : i.writesFlag .C = true := by rfl) (hz : i.writesFlag .Z = true := by rfl)
    (hn : i.writesFlag .N = true := by rfl) : ListedUpdates i s (t.compare r m) :=
  ((h.setFlag _ _ hc).setFlag _ _ hz).setFlag _ _ hn

theorem shiftFlags (out : Bool) (r : Byte) (hc : i.writesFlag .C = true := by rfl)
    (hz : i.writesFlag .Z = true := by rfl) (hn : i.writesFlag .N = true := by rfl) :
    ListedUpdates i s (t.shiftFlags out r) :=
  (h.setFlag _ _ hc).setZN _ hz hn

theorem branchIf (f : Flag) (want : Bool) (disp : Byte) (hb : (i.setsPc || i.branchTest.isSome) = true := by rfl) :
    ListedUpdates i s (branchIf f want disp t) := by
  unfold Machine.branchIf
  split
  · exact (h.setPc _ hb).addCycles _
  · exact h

theorem jumpTarget (target : Target) : ListedUpdates i s (jumpTarget target t).2 := by
  cases target with
  | abs w => exact h
  | ind ptr => exact (h.noteRead _).noteRead _

end operations

/-! ### What a sequence of listed updates keeps -/

section keeping

variable {i : Instr} {s t : State}

theorem inv (h : ListedUpdates i s t) (hs : s.Inv) : t.Inv := by
  induction h with
  | refl => exact hs
  | noteRead _ w ih => exact ih.noteRead w
  | addCycles _ n ih => exact ih.addCycles n
  | setA _ v _ ih => exact ih.setA v
  | setX _ v _ ih => exact ih.setX v
  | setY _ v _ ih => exact ih.setY v
  | setSp _ v _ ih => exact ih.setSp v
  | setFlag _ f b _ ih => exact ih.setFlag f b
  | loadStatus _ v _ ih => exact ih.setStatusFromStack v
  | setPc _ w _ ih => exact ih.setPc w
  | memWrite _ w v _ ih => exact ih.memWrite w v

/-- No update touches an input or the map, so each field of the new state is the old field by unfolding. -/
theorem keepsInputs (h : ListedUpdates i s t) : KeepsInputs s t := by
  induction h with
  | refl => exact ⟨rfl, rfl, rfl, rfl⟩
  | noteRead _ _ ih | addCycles _ _ ih | setA _ _ _ ih | setX _ _ _ ih | setY _ _ _ ih | setSp _ _ _ ih
  | setFlag _ _ _ _ ih | loadStatus _ _ _ ih | setPc _ _ _ ih | memWrite _ _ _ _ ih =>
    exact ⟨ih.nmi_latch, ih.irq_line, ih.reset_req, ih.io_map⟩

theorem writesReg_of_ne (h : ListedUpdates i s t) {r : Reg} (hne : t.reg r ≠ s.reg r) : i.writesReg r = true := by
  induction h with
  | refl => exact absurd rfl hne
  | setA _ v listed ih =>
    cases r with
    | A => exact listed
    | X | Y | SP => exact ih hne
  | setX _ v listed ih =>
    cases r with
    | X => exact listed
    | A | Y | SP => exact ih hne
  | setY _ v listed ih =>
    cases r with
    | Y => exact listed
    | A | X | SP => exact ih hne
  | setSp _ v listed ih =>
    cases r with
    | SP => exact listed
    | A | X | Y => exact ih hne
  | noteRead _ _ ih | addCycles _ _ ih | setFlag _ _ _ _ ih | loadStatus _ _ _ ih | setPc _ _ _ ih
  | memWrite _ _ _ _ ih => cases r <;> exact ih hne

theorem writesFlag_of_ne (h : ListedUpdates i s t) {f : Flag} (hne : t.flag f ≠ s.flag f) : i.writesFlag f = true := by
  induction h with
  | refl => exact absurd rfl hne
  | setFlag _ g b listed ih =>
    by_cases hfg : f = g
    · exact hfg ▸ listed
    · exact ih (by simpa [hfg] using hne)
  | loadStatus _ _ listed _ => exact Instr.writesFlag_of_loadsStatus listed f
  | noteRead _ _ ih | addCycles _ _ ih | setA _ _ _ ih | setX _ _ _ ih | setY _ _ _ ih | setSp _ _ _ ih
  | setPc _ _ _ ih | memWrite _ _ _ _ ih => exact ih hne

/-- Bits 5 and 4 of P (10_state.md R21): a single-flag write leaves them, a loaded byte has them at 1. -/
theorem fixed_bit (h : ListedUpdates i s t) {n : Nat} (hn : n = 4 ∨ n = 5) :
    t.p.getLsbD n = s.p.getLsbD n ∨ (i.isOneOf ["PLP", "RTI"] = true ∧ t.p.getLsbD n = true) := by
  induction h with
  | refl => exact .inl rfl
  | setFlag _ f b _ ih => simpa only [State.setFlag_p, putFlag_fixed_bit _ f b hn] using ih
  | loadStatus _ v listed _ => exact .inr ⟨listed, statusFromStack_fixed_bit v hn⟩
  | noteRead _ _ ih | addCycles _ _ ih | setA _ _ _ ih | setX _ _ _ ih | setY _ _ _ ih | setSp _ _ _ ih
  | setPc _ _ _ ih | memWrite _ _ _ _ ih => exact ih

theorem writesMemory_of_ne (h : ListedUpdates i s t) (hne : t.mem ≠ s.mem) : i.writesMemory = true := by
  induction h with
  | refl => exact absurd rfl hne
  | memWrite _ _ _ listed _ => exact listed
  | noteRead _ _ ih | addCycles _ _ ih | setA _ _ _ ih | setX _ _ _ ih | setY _ _ _ ih | setSp _ _ _ ih
  | setFlag _ _ _ _ ih | loadStatus _ _ _ ih | setPc _ _ _ ih => exact ih hne

theorem pc_eq (h : ListedUpdates i s t) (hpc : i.setsPc = false) (hbranch : i.branchTest = none) : t.pc = s.pc := by
  induction h with
  | refl => rfl
  | setPc _ _ listed _ => simp [hpc, hbranch] at listed
  | noteRead _ _ ih | addCycles _ _ ih | setA _ _ _ ih | setX _ _ _ ih | setY _ _ _ ih | setSp _ _ _ ih
  | setFlag _ _ _ _ ih | loadStatus _ _ _ ih | memWrite _ _ _ _ ih => exact ih

end keeping

end ListedUpdates

/-! ### Every instruction is such a sequence -/

/-- What an instruction can do (00_scope.md R8): it answers a next state, reached by updates the tables list for it. -/
theorem exec_listedUpdates (i : Instr) (s : State) : ∃ t, exec i s = .next t ∧ ListedUpdates i s t := by
  have start : ListedUpdates i s s := .refl
  cases i with
  | lda src | and src | ora src | eor src => exact ⟨_, rfl, ((start.readSource src).setA _).setZN _⟩
  | ldx src => exact ⟨_, rfl, ((start.readSource src).setX _).setZN _⟩
  | ldy src => exact ⟨_, rfl, ((start.readSource src).setY _).setZN _⟩
  | sta dst | stx dst | sty dst => exact ⟨_, rfl, start.storeTo dst _⟩
  | tax | tsx | inx | dex => exact ⟨_, rfl, (start.setX _).setZN _⟩
  | tay | iny | dey => exact ⟨_, rfl, (start.setY _).setZN _⟩
  | txa | tya => exact ⟨_, rfl, (start.setA _).setZN _⟩
  | txs => exact ⟨_, rfl, start.setSp _⟩
  | adc src | sbc src => exact ⟨_, rfl, (start.readSource src).addWithCarry _⟩
  | bit m => exact ⟨_, rfl, (((start.readMem m).setFlag .Z _).setFlag .N _).setFlag .V _⟩
  | asl dst | lsr dst | rol dst | ror dst => exact ⟨_, rfl, (start.updatePlace dst _).shiftFlags _ _⟩
  | inc dst | dec dst => exact ⟨_, rfl, (start.updateMem dst _).setZN _⟩
  | cmp src | cpx src | cpy src => exact ⟨_, rfl, (start.readSource src).compare _ _⟩
  | bcc disp | bcs disp | beq disp | bne disp | bmi disp | bpl disp | bvc disp | bvs disp =>
    exact ⟨_, rfl, start.branchIf _ _ disp⟩
  | jmp target => exact ⟨_, rfl, (start.jumpTarget target).setPc _⟩
  | jsr target => exact ⟨_, rfl, (start.pushWord _).setPc _⟩
  | rts => exact ⟨_, rfl, start.pullWord.setPc _⟩
  | pha | php => exact ⟨_, rfl, start.push _⟩
  | pla => exact ⟨_, rfl, (start.pull.setA _).setZN _⟩
  | plp => exact ⟨_, rfl, start.pull.loadStatus _⟩
  | clc | sec | cli | sei | cld | sed | clv => exact ⟨_, rfl, start.setFlag _ _⟩
  | brk => exact ⟨_, rfl, (((((start.pushWord _).push _).setFlag .I _).noteRead _).noteRead _).setPc _⟩
  | rti => exact ⟨_, rfl, (start.pull.loadStatus _).pullWord.setPc _⟩
  | nop | unused op => exact ⟨_, rfl, start⟩

theorem listedUpdates_of_exec {i : Instr} {s t : State} (h : exec i s = .next t) : ListedUpdates i s t := by
  obtain ⟨u, hu, hupdates⟩ := exec_listedUpdates i s
  obtain rfl : t = u := by simpa [h] using hu
  exact hupdates

/-! ### Branches (48_control_transfer.md R160 to R168) -/

theorem exec_of_branchTest {i : Instr} {f : Flag} {want : Bool} (h : i.branchTest = some (f, want)) (s : State) :
    i.length = 2 ∧ ∃ disp, exec i s = .next (branchIf f want disp s) := by
  cases i <;> cases h <;> exact ⟨rfl, _, rfl⟩

theorem branchIf_not_taken {f : Flag} {want : Bool} (disp : Byte) {s : State} (h : s.flag f ≠ want) :
    branchIf f want disp s = s := if_neg h

theorem foldl_noteRead_p (addrs : List Word) (s : State) : (addrs.foldl State.noteRead s).p = s.p := by
  induction addrs generalizing s with
  | nil => rfl
  | cons w ws ih => exact ih _

@[simp] theorem State.advanced_flag (s : State) (i : Instr) (f : Flag) : (s.advanced i).flag f = s.flag f :=
  congrArg (getFlag · f) (foldl_noteRead_p _ s.beginStep)

theorem State.advanced_pc_toNat (s : State) (i : Instr) :
    (s.advanced i).pc.toNat = (s.pc.toNat + i.length) % 65536 := by
  simp [BitVec.toNat_add]

/-! ### Steps and runs -/

theorem State.Inv.step {s t : State} (h : s.Inv) (hstep : step s = .next t) : t.Inv := by
  cases hk : recognise s with
  | some k =>
    rw [step_of_recognise hk] at hstep
    cases hstep
    exact h.entryStep k
  | none =>
    rw [step_of_no_entry hk] at hstep
    exact (listedUpdates_of_exec hstep).inv h.beginStep.fetch

theorem safeStep (s : State) : SafeStep s := by
  cases hk : recognise s with
  | some k => exact ⟨_, step_of_recognise hk⟩
  | none =>
    obtain ⟨t, ht, -⟩ := exec_listedUpdates (fetch s.beginStep).1 (fetch s.beginStep).2
    exact ⟨t, (step_of_no_entry hk).trans ht⟩

theorem construct_inv (a x y sp p : Byte) (pc : Word) {mem : Memory} (io : List IoRegion) (h : mem.wf = true) :
    (State.construct a x y sp p pc mem io).Inv :=
  have hp : ∀ q : Byte, (q ||| 0x30) &&& 0x30 = 0x30 := by decide
  ⟨hp p, h⟩

/-- The invariant holds where a run starts, and every step and every event keeps it. -/
theorem Reachable.inv {s : State} (h : Reachable s) : s.Inv := by
  induction h with
  | powerOn s hmem => exact coldReset_inv hmem
  | constructed a x y sp p pc mem io hmem => exact construct_inv a x y sp p pc io hmem
  | step _ hstep ih => exact ih.step hstep
  | event e _ ih => exact ih.applyEvent e

/-! ### The two vector reads of a reset (60_exceptions.md R208) -/

theorem read16_accesses (w : Word) (s : State) :
    (read16 w s).2.accesses = s.accesses ++ [.read w, .read (w + 1#16)] := by
  simp [read16]

theorem entryStep_reset_accesses (s : State) :
    (entryStep .reset s).accesses = [.read Config.vecReset, .read (Config.vecReset + 1#16)] :=
  read16_accesses _ _

theorem entryStep_reset_frame (s : State) : Frame [.SP] [.I] [] s.clearNmi (entryStep .reset s) := by
  apply Frame.of_fields
  case hf =>
    intro f hf
    have hfI : f ≠ .I := by simpa using hf
    simp [raiseInterrupt, getFlag_putFlag, hfI]
  all_goals simp [raiseInterrupt]

theorem coldReset_accesses (s : State) :
    (coldReset s).accesses = [.read Config.vecReset, .read (Config.vecReset + 1#16)] :=
  read16_accesses _ _

theorem coldReset_pc (s : State) : (coldReset s).pc = busWord Config.vecReset s := rfl

theorem coldReset_cycles (s : State) : (coldReset s).cycles = Config.entryCycles := rfl

/-- Power-on reads nothing of a state but its memory, its map, its count of I/O reads and its two input levels. -/
theorem coldReset_congr {s t : State} (hmem : s.mem = t.mem) (hio : s.ioRegions = t.ioRegions)
    (hreads : s.ioReads = t.ioReads) (hirq : s.irqLine = t.irqLine) (hreset : s.resetReq = t.resetReq) :
    coldReset s = coldReset t := by
  cases s
  cases t
  cases hmem
  cases hio
  cases hreads
  cases hirq
  cases hreset
  rfl

theorem coldReset_reset : coldReset State.reset = State.reset := by decide

/-! ### Pulls (10_state.md R16) -/

theorem pull_sp_toNat (s : State) : (pull s).2.sp.toNat = (s.sp.toNat + 1) % 256 := by
  simp [BitVec.toNat_add]

theorem pull_setA_setZN_frame (s : State) (v : Byte) : Frame [.A, .SP] [.Z, .N] [] s (((pull s).2.setA v).setZN v) := by
  apply Frame.of_fields
  case hf =>
    intro f hf
    obtain ⟨hfZ, hfN⟩ : f ≠ .Z ∧ f ≠ .N := by simpa using hf
    simp [getFlag_putFlag, hfZ, hfN]
  all_goals simp

/-- Once the new P is granted, a pull that loads P changes SP only. -/
theorem pull_setP_frame (s : State) (q : Byte) :
    Frame [.SP] [.C, .Z, .I, .D, .V, .N] [] (s.setP q) ((pull s).2.setP q) := by
  apply Frame.of_fields <;> simp

/-- A pull undoes a push, where memory answers for the stack location. -/
theorem pull_push_fst {s : State} (v : Byte) (h : s.isIo (stackAddr s.sp) = false) : (pull (push v s)).1 = v := by
  have hsp : s.sp - 1#8 + 1#8 = s.sp := BitVec.sub_add_cancel _ _
  simp [hsp, State.busAnswer, h]

theorem pull_push_sp (v : Byte) (s : State) : (pull (push v s)).2.sp = s.sp := by
  simp

theorem statusFromStack_statusWithBreak {p : Byte} (h : p &&& 0x30 = 0x30) :
    statusFromStack (statusWithBreak p) = p := by
  revert p; decide

/-! ### `SetZN` -/

theorem State.showsZN_setZN (s : State) (v : Byte) : ShowsZN v (s.setZN v) := by
  constructor <;> simp [State.setZN]

end Sys2Proof.Machine

namespace Sys2Proof

open Machine

/-- Settles O17: an entry and an instruction are both sequences of updates that keep the invariant. -/
theorem everyStepKeepsInvariant : Obligations.EveryStepKeepsInvariant :=
  fun _ _ hinv hstep => hinv.step hstep

/-- Settles O18, by induction on the run. -/
theorem reachableStatesAreSafe : Obligations.ReachableStatesAreSafe :=
  fun s hs => ⟨hs.inv, safeStep s⟩

/-- Settles O20: no update an instruction makes is an update of an input or of the map. -/
theorem instructionsKeepInputs : Obligations.InstructionsKeepInputs :=
  fun _ _ _ h => (listedUpdates_of_exec h).keepsInputs

/-- Settles O21: only the control transfers have an update of PC, and a branch not taken does nothing. -/
theorem pcAdvancesByLength : Obligations.PcAdvancesByLength := by
  intro s t i rest hno hdec hstep
  rw [step_of_decode hno hdec] at hstep
  refine ⟨fun hpc hbranch => ?_, fun f want htest hflag => ?_⟩
  · rw [(listedUpdates_of_exec hstep).pc_eq hpc hbranch, State.advanced_pc_toNat]
  · obtain ⟨hlen, disp, hexec⟩ := exec_of_branchTest htest (s.advanced i)
    rw [hexec, branchIf_not_taken disp (by simpa using hflag)] at hstep
    cases hstep
    rw [State.advanced_pc_toNat, hlen]

/-- Settles O22: an update of a register is one the tables list. -/
theorem onlyListedInstructionsWriteRegisters : Obligations.OnlyListedInstructionsWriteRegisters :=
  fun _ _ _ _ h hne => (listedUpdates_of_exec h).writesReg_of_ne hne

/-- Settles O23: an update of a flag is one the table lists, and only the load of a pulled byte touches bits 5 and 4. -/
theorem onlyListedInstructionsWriteFlags : Obligations.OnlyListedInstructionsWriteFlags := by
  intro i s t h
  have hupdates := listedUpdates_of_exec h
  exact ⟨fun _ hne => hupdates.writesFlag_of_ne hne, hupdates.fixed_bit (.inl rfl), hupdates.fixed_bit (.inr rfl)⟩

/-- Settles O13: the step is the reset's entry, which writes nothing. -/
theorem warmResetStep : Obligations.WarmResetStep := by
  intro s hreset
  have hstep : step s = .next (entryStep .reset s) := step_of_recognise (by simp [recognise, hreset])
  have hsp : (entryStep .reset s).sp = s.sp - 3#8 := by simp [raiseInterrupt]
  have hmasked : (entryStep .reset s).flag .I = true := getFlag_putFlag_same s.p .I true
  have hpc : (entryStep .reset s).pc = busWord Config.vecReset s := rfl
  have hlatch : (entryStep .reset s).nmiPending = false := by simp [raiseInterrupt]
  exact ⟨_, hstep, hsp, hmasked, hpc, hlatch, entryStep_reset_frame s, entryStep_reset_accesses s, rfl⟩

/-- Settles O53: a pull with the update of A or of P that follows it. -/
theorem pullsIncrementThenRead : Obligations.PullsIncrementThenRead := by
  refine ⟨rfl, rfl, rfl, rfl, ?_⟩
  rintro s v rfl
  constructor
  case left =>
    exact ⟨_, rfl, rfl, State.showsZN_setZN _ _, pull_sp_toNat s, pull_setA_setZN_frame s _, rfl, rfl, rfl⟩
  case right =>
    have hbit (n : Nat) (hn : n = 4 ∨ n = 5) := statusFromStack_fixed_bit (pull s).1 hn
    exact ⟨_, rfl, getFlag_statusFromStack _, hbit 4 (.inl rfl), hbit 5 (.inr rfl), pull_sp_toNat s,
      pull_setP_frame s _, rfl, rfl, rfl⟩

/-- Settles O54: the pull reads the byte the push wrote. -/
theorem pushThenPullRestores : Obligations.PushThenPullRestores := by
  intro s t u hplain
  refine ⟨fun hpush hpull => ?_, fun hfixed hpush hpull => ?_⟩
  · cases hpush
    cases hpull
    exact ⟨pull_push_fst s.a hplain, pull_push_sp s.a s⟩
  · cases hpush
    cases hpull
    refine ⟨?_, pull_push_sp _ s⟩
    rw [State.setP_p, pull_push_fst _ hplain, statusFromStack_statusWithBreak hfixed]

/-- Settles O14: one lemma of `coldReset` per value. -/
theorem powerOnValues : Obligations.PowerOnValues :=
  fun s => ⟨coldReset_a s, coldReset_x s, coldReset_y s, coldReset_sp s, coldReset_p s, coldReset_pc s,
    coldReset_nmiPending s, coldReset_mem s, coldReset_accesses s, coldReset_cycles s⟩

/-- Settles O15: power-on reads only what the hypotheses fix, and they fix it as `State.reset` has it. -/
theorem resetStateIsPowerOn : Obligations.ResetStateIsPowerOn :=
  fun _ hmem hio hreads hirq hreset => (coldReset_congr hmem hio hreads hirq hreset).trans coldReset_reset

/-- Settles O16: the reset state is a power-on over a canonical memory. -/
theorem resetStateMeetsInvariant : Obligations.ResetStateMeetsInvariant := by
  have hinv : (coldReset State.reset).Inv := coldReset_inv rfl
  rwa [coldReset_reset] at hinv

/-- Settles O59: each event is one update of the state, a write that of one byte of the store. -/
theorem eventsChangeOnlyTheirTarget : Obligations.EventsChangeOnlyTheirTarget := by
  intro s
  refine ⟨fun e => ?_, ⟨rfl, rfl, rfl, rfl, fun hpending => ?_⟩, fun _ => ⟨rfl, rfl, rfl, rfl⟩,
    fun _ => ⟨rfl, rfl, rfl, rfl⟩, fun w v => ⟨⟨rfl, rfl, rfl, rfl⟩, Memory.read_write_same _ _ _, fun u hu => ?_⟩⟩
  · cases e <;> exact ⟨rfl, rfl, fun r => by cases r <;> rfl, rfl, rfl, rfl, rfl⟩
  · exact congrArg (fun b => { s with nmiPending := b }) hpending.symm
  · exact (Memory.read_write_word _ _ _ _).trans (if_neg hu)

end Sys2Proof


/-! SUPPORT. The bus (20_memory.md R31, R32, R37) and the atomic read-modify-write (R36, R46). -/

namespace Sys2Proof.Machine

/-! ### What the fetch leaves as it was -/

theorem foldl_noteRead_keeps {α : Type} (g : State → α) (hg : ∀ s w, g (s.noteRead w) = g s) (addrs : List Word)
    (s : State) : g (addrs.foldl State.noteRead s) = g s := by
  induction addrs generalizing s with
  | nil => rfl
  | cons w ws ih => exact (ih _).trans (hg s w)

@[simp] theorem State.advanced_mem (s : State) (i : Instr) : (s.advanced i).mem = s.mem :=
  foldl_noteRead_keeps State.mem State.noteRead_mem _ s.beginStep

@[simp] theorem State.advanced_isIo (s : State) (i : Instr) (w : Word) : (s.advanced i).isIo w = s.isIo w :=
  foldl_noteRead_keeps (State.isIo · w) (State.noteRead_isIo · · w) _ s.beginStep

/-! ### Memory operands -/

/-- Outside `IO_REGIONS` a memory operand is the stored byte: the pointer reads before it store nothing. -/
theorem memOperand_plain {m : MemMode} {s : State} (h : s.isIo (effAddr m s) = false) :
    memOperand m s = s.mem.read (effAddr m s).toNat := by
  rw [memOperand, State.busAnswer_plain ((resolve_isIo s m _).trans h), resolve_mem]

/-! ### The values of the read-modify-writes (45_shift_rotate.md R130 to R133, 46_inc_dec.md R140, R141) -/

theorem bit01_toNat (b : Bool) : (bit01 b).toNat = b.toNat := by
  cases b <;> rfl

theorem shiftLeft_toNat (v : Byte) : (shiftLeft v).toNat = 2 * v.toNat % 256 := by
  simp [shiftLeft, Nat.shiftLeft_eq, Nat.mul_comm]

theorem shiftRight_toNat (v : Byte) : (shiftRight v).toNat = v.toNat / 2 := by
  simp [shiftRight, Nat.shiftRight_eq_div_pow]

/-- The carry comes into bit 0, which the shift has cleared, so the `or` is a sum. -/
theorem rotateLeft_toNat (c : Bool) (v : Byte) : (rotateLeft c v).toNat = (2 * v.toNat + c.toNat) % 256 := by
  have hc : c.toNat < 2 ^ 1 := c.toNat_lt
  have hshift : (v <<< 1).toNat = 2 ^ 1 * (v.toNat % 128) := by
    rw [BitVec.toNat_shiftLeft, Nat.shiftLeft_eq]
    omega
  rw [rotateLeft, BitVec.toNat_or, bit01_toNat, hshift, ← Nat.two_pow_add_eq_or_of_lt hc]
  omega

/-- The carry comes into bit 7, which the shift has cleared, so the `or` is a sum. -/
theorem rotateRight_toNat (c : Bool) (v : Byte) : (rotateRight c v).toNat = v.toNat / 2 + 128 * c.toNat := by
  have hc : c.toNat < 2 := c.toNat_lt
  have hv : v.toNat / 2 < 2 ^ 7 := by omega
  have hcarry : (bit01 c <<< 7).toNat = 2 ^ 7 * c.toNat := by
    rw [BitVec.toNat_shiftLeft, Nat.shiftLeft_eq, bit01_toNat]
    omega
  rw [rotateRight, BitVec.toNat_or, BitVec.toNat_ushiftRight, Nat.shiftRight_eq_div_pow, hcarry, Nat.or_comm,
    ← Nat.two_pow_add_eq_or_of_lt hv, Nat.add_comm]

theorem sub_one_toNat (v : Byte) : (v - 1#8).toNat = (v.toNat + 255) % 256 := by
  rw [BitVec.toNat_sub, Nat.add_comm]
  rfl

/-! ### The six read-modify-writes -/

/-- Each of the six is `updateMem` of a function with the row's value, as far as memory and the bus show it: what follows
`updateMem` writes flags only. -/
theorem exec_rmwRow (m : MemMode) (s : State) : ∀ row ∈ Statements.rmwRows m,
    ∃ (f : Byte → Byte) (t : State), (∀ v, (f v).toNat = row.2 v (s.flag .C)) ∧ exec row.1 s = .next t ∧
      t.mem = (updateMem m f s).2.mem ∧ t.accesses = (updateMem m f s).2.accesses := by
  simp only [Statements.rmwRows, List.forall_mem_cons]
  refine ⟨?asl, ?lsr, ?rol, ?ror, ?inc, ?dec, by simp⟩
  case asl => exact ⟨_, _, shiftLeft_toNat, rfl, rfl, rfl⟩
  case lsr => exact ⟨_, _, shiftRight_toNat, rfl, rfl, rfl⟩
  case rol => exact ⟨_, _, rotateLeft_toNat _, rfl, rfl, rfl⟩
  case ror => exact ⟨_, _, rotateRight_toNat _, rfl, rfl, rfl⟩
  case inc => exact ⟨_, _, fun v => BitVec.toNat_add v 1#8, rfl, rfl, rfl⟩
  case dec => exact ⟨_, _, sub_one_toNat, rfl, rfl, rfl⟩

end Sys2Proof.Machine

namespace Sys2Proof

open Machine

/-- Settles O24: an update of memory is one the tables list. -/
theorem onlyListedInstructionsWriteMemory : Obligations.OnlyListedInstructionsWriteMemory :=
  fun _ _ _ h hne => (listedUpdates_of_exec h).writesMemory_of_ne hne

/-- Settles O28: the two answers of the bus, and the store's read after a write. -/
theorem busAnswersLatestWriteOrAgent : Obligations.BusAnswersLatestWriteOrAgent := by
  intro s w v
  refine ⟨fun hplain => ⟨State.busAnswer_plain hplain, ?_⟩, fun hio => ⟨State.busAnswer_io hio, ?_⟩, fun u hu => ?_,
    rfl, rfl, rfl⟩
  · rw [memRead_fst, State.busAnswer_plain (s := memWrite w v s) hplain, memWrite_mem, Memory.read_write_same]
  · rw [memRead_snd, State.noteRead_ioReads, if_pos hio]
  · rw [memWrite_mem, Memory.read_write_word, if_neg hu]

/-- Settles O60: the step after the events is the read-modify-write on the fetched state, whose memory is still the one
before the step. -/
theorem readModifyWriteIsOneStep : Obligations.ReadModifyWriteIsOneStep := by
  intro es s s0 m rest hs0 hno row hrow hdec
  obtain ⟨f, t, hf, hexec, hmem, hacc⟩ := exec_rmwRow m (s0.advanced row.1) row hrow
  rw [updateMem_mem, updateMem_old, State.advanced_mem] at hmem
  rw [updateMem_accesses, State.advanced_accesses] at hacc
  have hstep : stepAfter es s = .next t := by rw [stepAfter, ← hs0, step_of_decode hno hdec, hexec]
  refine ⟨t, _, f (memOperand m (s0.advanced row.1)), hstep, rfl, hacc, ?_, fun hplain => ?_, ?_, fun u hu => ?_⟩
  · rw [hf, State.advanced_flag]
  · rw [memOperand_plain ((State.advanced_isIo _ _ _).trans hplain), State.advanced_mem]
  · rw [hmem, Memory.read_write_same]
  · rw [hmem, Memory.read_write_word, if_neg hu]

end Sys2Proof

/-! SUPPORT. The encoding (30_encoding.md R50 to R58): `decode` on a byte list of any length, the opcode map as the inverse
of the encoder's table, and the bytes that do nothing. -/

namespace Sys2Proof

/-! ### `decode` on any list of bytes (R50, R51) -/

theorem operands_cases {op : Byte} {operands : List Byte} (h : operands.length + 1 = opcodeLength op) :
    operands = [] ∨ (∃ b, operands = [b]) ∨ ∃ b c, operands = [b, c] := by
  have hb := opcodeLength_bounds op
  match operands, h with
  | [], _ => exact .inl rfl
  | [b], _ => exact .inr (.inl ⟨b, rfl⟩)
  | [b, c], _ => exact .inr (.inr ⟨b, c, rfl⟩)
  | _ :: _ :: _ :: _, h =>
    simp only [List.length_cons] at h
    omega

theorem decode_append {op : Byte} {operands : List Byte} (h : operands.length + 1 = opcodeLength op)
    (rest : List Byte) :
    decode (op :: operands ++ rest) = .ok (instrOf op (operands.getD 0 0) (operands.getD 1 0), rest) := by
  obtain rfl | ⟨b, rfl⟩ | ⟨b, c, rfl⟩ := operands_cases h
  · exact decode_one h.symm rest
  · exact decode_two h.symm b rest
  · exact decode_three h.symm b c rest

/-- Whatever decodes begins with an opcode byte and as many operand bytes as that byte asks for. -/
theorem decode_eq_ok {bytes rest : List Byte} {i : Instr} (h : decode bytes = .ok (i, rest)) :
    ∃ op operands, operands.length + 1 = opcodeLength op ∧ bytes = op :: operands ++ rest ∧
      i = instrOf op (operands.getD 0 0) (operands.getD 1 0) := by
  unfold decode at h
  split at h
  case h_1 => cases h
  case h_2 op tail =>
    split at h
    case h_1 hlen => cases h; exact ⟨op, [], hlen.symm, rfl, rfl⟩
    case h_2 b _ hlen => cases h; exact ⟨op, [b], hlen.symm, rfl, rfl⟩
    case h_3 b c _ hlen => cases h; exact ⟨op, [b, c], hlen.symm, rfl, rfl⟩
    case h_4 => cases h

theorem decode_cons_cons_cons (op b1 b2 : Byte) (rest : List Byte) :
    ∃ b c, decode (op :: b1 :: b2 :: rest) = .ok (instrOf op b c, (b1 :: b2 :: rest).drop (opcodeLength op - 1)) := by
  have hb := opcodeLength_bounds op
  obtain h | h | h : opcodeLength op = 1 ∨ opcodeLength op = 2 ∨ opcodeLength op = 3 := by omega
  · exact ⟨_, _, by rw [decode_one h, h]; rfl⟩
  · exact ⟨_, _, by rw [decode_two h, h]; rfl⟩
  · exact ⟨_, _, by rw [decode_three h, h]; rfl⟩

/-! ### The opcode map and the encoder's table (R55, R56) -/

theorem instrOf_operandBytes {op : Byte} {operands : List Byte} (h : operands.length + 1 = opcodeLength op) :
    (instrOf op (operands.getD 0 0) (operands.getD 1 0)).operandBytes = operands := by
  obtain ⟨-, -, -, hbytes⟩ := instrOf_good op (operands.getD 0 0) (operands.getD 1 0)
  rw [hbytes, ← h]
  obtain rfl | ⟨b, rfl⟩ | ⟨b, c, rfl⟩ := operands_cases h <;> rfl

theorem instrOf_operandBytes_length (op b c : Byte) :
    (instrOf op b c).operandBytes.length + 1 = opcodeLength op := by
  have hb := opcodeLength_bounds op
  obtain ⟨-, -, -, hbytes⟩ := instrOf_good op b c
  rw [hbytes, List.length_take, List.length_cons, List.length_singleton]
  omega

theorem encode_of_opcode {i : Instr} {op : Byte} (h : i.opcode = some op) : encode i = some (op :: i.operandBytes) := by
  simp [encode, h]

theorem pickOpcode_isSome (m : Mode) (row : List (Mode × Byte)) :
    (pickOpcode m row).isSome = (row.map Prod.fst).contains m := by
  induction row with
  | nil => rfl
  | cons entry row ih =>
    by_cases h : entry.1 = m
    · simp [pickOpcode, h]
    · simp [pickOpcode, h, ih, Ne.symm h]

/-- The modes a mnemonic admits (40_addressing_modes.md R84) are the modes of its row of R56. -/
theorem Instr.opcode_isSome (i : Instr) : i.opcode.isSome = i.wf := by
  cases i with
  | lda o | ldx o | ldy o | sta o | stx o | sty o | adc o | sbc o | and o | ora o | eor o | bit o | asl o | lsr o | rol o
  | ror o | inc o | dec o | cmp o | cpx o | cpy o | jmp o => exact pickOpcode_isSome o.mode _
  | unused op => by_cases h : op ∈ unusedOpcodes <;> simp [Instr.opcode, Instr.wf, h]
  | _ => rfl

theorem instrOf_unused : ∀ op ∈ unusedOpcodes, instrOf op 0 0 = .unused op := by decide

theorem exists_wordOf (w : Word) : ∃ hi lo, w = wordOf hi lo := ⟨_, _, (wordOf_high_low w).symm⟩

theorem instrOf_bytes_wordOf (op hi lo : Byte) :
    instrOf op (lowByte (wordOf hi lo)) (highByte (wordOf hi lo)) = instrOf op lo hi := by
  rw [lowByte_wordOf, highByte_wordOf]

/-- The map holds, at the opcode byte R56 gives an instruction, that very instruction. A mode the row lacks leaves no
case. -/
theorem instrOf_of_opcode {i : Instr} {op : Byte} (h : i.opcode = some op) :
    instrOf op (i.operandBytes.getD 0 0) (i.operandBytes.getD 1 0) = i := by
  cases i with
  | lda o | ldx o | ldy o | adc o | sbc o | and o | ora o | eor o | cmp o | cpx o | cpy o =>
    cases o with
    | imm v => cases h; rfl
    | mem m =>
      cases m with
      | zp b | zpx b | zpy b | izx b | izy b => cases h <;> rfl
      | abs w | abx w | aby w =>
        obtain ⟨hi, lo, rfl⟩ := exists_wordOf w
        cases h <;> exact instrOf_bytes_wordOf _ hi lo
  | asl o | lsr o | rol o | ror o =>
    cases o with
    | acc => cases h; rfl
    | mem m =>
      cases m with
      | zp b | zpx b | zpy b | izx b | izy b => cases h <;> rfl
      | abs w | abx w | aby w =>
        obtain ⟨hi, lo, rfl⟩ := exists_wordOf w
        cases h <;> exact instrOf_bytes_wordOf _ hi lo
  | sta m | stx m | sty m | bit m | inc m | dec m =>
    cases m with
    | zp b | zpx b | zpy b | izx b | izy b => cases h <;> rfl
    | abs w | abx w | aby w =>
      obtain ⟨hi, lo, rfl⟩ := exists_wordOf w
      cases h <;> exact instrOf_bytes_wordOf _ hi lo
  | jmp target =>
    cases target with
    | abs w | ind w =>
      obtain ⟨hi, lo, rfl⟩ := exists_wordOf w
      cases h
      exact instrOf_bytes_wordOf _ hi lo
  | jsr w =>
    obtain ⟨hi, lo, rfl⟩ := exists_wordOf w
    cases h
    exact instrOf_bytes_wordOf _ hi lo
  | unused byte =>
    obtain ⟨hmem, rfl⟩ : byte ∈ unusedOpcodes ∧ byte = op := by simpa [Instr.opcode] using h
    exact instrOf_unused byte hmem
  | _ => cases h; rfl

/-! ### The unused bytes (R58) -/

theorem opcodeLength_unused {op : Byte} (h : op ∈ unusedOpcodes) : opcodeLength op = 1 :=
  congrArg Instr.length (instrOf_unused op h)

theorem baseCycles_unused : ∀ op ∈ unusedOpcodes, baseCycles op = 2 := by decide

theorem decode_unused {op : Byte} (h : op ∈ unusedOpcodes) (rest : List Byte) :
    decode (op :: rest) = .ok (.unused op, rest) := by
  rw [decode_one (opcodeLength_unused h), instrOf_unused op h]

theorem encode_unused {op : Byte} (h : op ∈ unusedOpcodes) : encode (.unused op) = some [op] :=
  encode_of_opcode (by simp [Instr.opcode, h])

end Sys2Proof

namespace Sys2Proof.Machine

/-! ### A step that does nothing (49_stack_flag_system.md R193, R194) -/

theorem fetch_frame (s : State) : Frame [] [] [] s (fetch s.beginStep).2 := by
  apply Frame.of_fields <;> simp

theorem exec_unused_or_nop {op : Byte} (h : op ∈ unusedOpcodes ∨ op = 0xEA) (s : State) :
    exec (instrOf op 0 0) s = .next s := by
  obtain hmem | rfl := h
  · rw [instrOf_unused op hmem]; rfl
  · rfl

/-- A one-byte instruction that does nothing leaves the state as the fetch made it. -/
theorem step_of_no_effect {s : State} (hno : NoEntry s) (hlen : opcodeLength (s.busAnswer s.pc) = 1)
    (hexec : ∀ t, exec (instrOf (s.busAnswer s.pc) 0 0) t = .next t) :
    ∃ t, step s = .next t ∧ t.pc.toNat = (s.pc.toNat + 1) % 65536 ∧ Frame [] [] [] s t ∧ t.accesses = [.read s.pc] ∧
      t.cycles = baseCycles (s.busAnswer s.pc) := by
  have hfetch := fetch_one (s := s.beginStep) hlen
  refine ⟨(fetch s.beginStep).2, ?_, ?_, fetch_frame s, ?_, ?_⟩
  · rw [step_of_no_entry (recognise_of_noEntry hno), hfetch]
    exact hexec _
  · simp [hlen, BitVec.toNat_add]
  · simp [hfetch]
  · simp

end Sys2Proof.Machine

namespace Sys2Proof

open Machine

/-- Settles O1: the operand bytes are as many as the opcode byte asks for, so `decode` reads the map at that byte, and the
map is the inverse of the encoder's table. -/
theorem encodeThenDecodeGivesInstruction : Obligations.EncodeThenDecodeGivesInstruction := by
  intro i rest hwf
  obtain ⟨op, hop⟩ := Option.isSome_iff_exists.1 (i.opcode_isSome.trans hwf)
  have hi := instrOf_of_opcode hop
  have hlen : i.length = opcodeLength op := hi ▸ (instrOf_good op _ _).1
  have hbytes : i.operandBytes.length + 1 = opcodeLength op := by
    rw [← hi]
    exact instrOf_operandBytes_length op _ _
  exact ⟨op :: i.operandBytes, encode_of_opcode hop, hbytes.trans hlen.symm, by rw [decode_append hbytes, hi]⟩

/-- Settles O2: what decodes is an entry of the map, and every entry is well formed and has its bytes. -/
theorem decodeThenEncodeGivesBytes : Obligations.DecodeThenEncodeGivesBytes := by
  intro bytes rest i hdec
  obtain ⟨op, operands, hlen, rfl, rfl⟩ := decode_eq_ok hdec
  obtain ⟨-, hwf, hop, -⟩ := instrOf_good op (operands.getD 0 0) (operands.getD 1 0)
  exact ⟨hwf, op :: operands, by rw [encode_of_opcode hop, instrOf_operandBytes hlen], rfl⟩

/-- Settles O3: the length of a map entry is the one its opcode byte fixes, and two bytes are enough for it. -/
theorem everyOpcodeByteDecodes : Obligations.EveryOpcodeByteDecodes := by
  intro op b1 b2 rest
  obtain ⟨b, c, hdec⟩ := decode_cons_cons_cons op b1 b2 rest
  have hlen : (instrOf op b c).length = opcodeLength op := (instrOf_good op b c).1
  exact ⟨instrOf op b c, by rw [hdec, hlen], hlen, Instr.length_bounds _⟩

/-- Settles O4: the map at those bytes, and that their instructions leave the state as the fetch made it. -/
theorem unusedAndNopDoNothing : Obligations.UnusedAndNopDoNothing := by
  refine ⟨fun op hop rest s => ⟨decode_unused hop rest, baseCycles_unused op hop, rfl⟩, fun bytes rest op hdec => ?_,
    fun rest s => ⟨rfl, rfl, rfl⟩, fun s hno hop => ?_, rfl⟩
  · obtain ⟨hwf, used, hused, rfl⟩ := decodeThenEncodeGivesBytes bytes rest _ hdec
    have hop : op ∈ unusedOpcodes := by simpa [Instr.WellFormed, Instr.wf] using hwf
    obtain rfl : [op] = used := by simpa [encode_unused hop] using hused
    exact ⟨hop, rfl⟩
  · have hlen : opcodeLength (s.busAnswer s.pc) = 1 := hop.elim opcodeLength_unused (fun h => by rw [h]; rfl)
    have hcycles : baseCycles (s.busAnswer s.pc) = 2 := hop.elim (baseCycles_unused _) (fun h => by rw [h]; rfl)
    exact hcycles ▸ step_of_no_effect hno hlen (exec_unused_or_nop hop)

/-- Settles O5: the opcode map evaluated at twelve opcode bytes. -/
theorem specWordsDecodeAsSpecified : Obligations.SpecWordsDecodeAsSpecified :=
  ⟨rfl, rfl, rfl, rfl, rfl, rfl, rfl, rfl, rfl, rfl, rfl, rfl⟩

end Sys2Proof

/-! SUPPORT. The addressing modes (40_addressing_modes.md R74 to R81): addresses as numbers, the indexed sum, and the two
mnemonics that admit ZPY. -/

namespace Sys2Proof

@[simp] theorem zext16_toNat (b : Byte) : (zext16 b).toNat = b.toNat :=
  BitVec.toNat_setWidth_of_le (by decide)

theorem highByte_toNat (w : Word) : (highByte w).toNat = w.toNat / 256 := by
  have hpage : w.toNat / 256 < 256 := by omega
  rw [highByte, BitVec.toNat_setWidth, BitVec.toNat_ushiftRight, Nat.shiftRight_eq_div_pow]
  exact Nat.mod_eq_of_lt hpage

/-- Only LDX and STX admit ZPY (40_addressing_modes.md R76, R84). -/
theorem Instr.isOneOf_of_mode_zpy {i : Instr} (hwf : i.WellFormed) (hmode : i.mode = .zpy) :
    i.isOneOf ["LDX", "STX"] = true := by
  cases i with
  | ldx o | stx o => rfl
  | lda o | adc o | sbc o | and o | ora o | eor o | cmp o | ldy o | cpx o | cpy o | asl o | lsr o | rol o | ror o
  | sta o | sty o | bit o | inc o | dec o | jmp o =>
    have hmode : o.mode = .zpy := hmode
    simp [Instr.WellFormed, Instr.wf, accumulatorModes, shiftModes, hmode] at hwf
  | _ => cases hmode

end Sys2Proof

namespace Sys2Proof.Machine

theorem pageCross_eq_decide (u v : Word) : pageCross u v = decide (u.toNat / 256 ≠ v.toNat / 256) := by
  rw [Bool.eq_iff_iff]
  simp [pageCross, ← highByte_toNat, BitVec.toNat_inj]

/-! ### The indexed sum (R78, R81) -/

theorem indexed_ea_toNat (base : Word) (index : Byte) :
    (indexed base index).ea.toNat = (base.toNat + index.toNat) % 65536 := by
  rw [indexed, BitVec.toNat_add, zext16_toNat]

theorem indexed_cross (base : Word) (index : Byte) :
    (indexed base index).cross = decide ((indexed base index).ea.toNat / 256 ≠ base.toNat / 256) :=
  pageCross_eq_decide _ _

theorem readMem_accesses (m : MemMode) (s : State) :
    (readMem m s).2.accesses = s.accesses ++ pointerReads m s ++ [.read (effAddr m s)] := by
  rw [List.append_assoc]
  exact readSource_accesses (s := s) (.mem m)

end Sys2Proof.Machine

namespace Sys2Proof

open Machine

/-- Settles O25: the index is added to the byte, so the sum wraps mod 256 before it becomes an address. -/
theorem zeroPageModesStayInPageZero : Obligations.ZeroPageModesStayInPageZero := by
  intro b s
  have hsum (index : Byte) : (zext16 (b + index)).toNat = (b.toNat + index.toNat) % 256 := by
    rw [zext16_toNat, BitVec.toNat_add]
  refine ⟨zext16_toNat b, hsum s.x, hsum s.y, ?_, fun i => Instr.isOneOf_of_mode_zpy⟩
  simp only [List.forall_mem_cons]
  exact ⟨⟨rfl, rfl⟩, ⟨rfl, rfl⟩, ⟨rfl, rfl⟩, by simp⟩

/-- Settles O26: ABX and ABY are the indexed sum of the operand word, and the modes read no pointer. -/
theorem absoluteModesAddTheIndex : Obligations.AbsoluteModesAddTheIndex := by
  intro w s
  refine ⟨rfl, rfl, indexed_ea_toNat w s.x, indexed_ea_toNat w s.y, ?_, ?_⟩
  · simp only [List.forall_mem_cons]
    exact ⟨indexed_cross w s.x, indexed_cross w s.y, by simp⟩
  · intro m hm
    obtain ⟨hstate, hptr⟩ : (resolve m s).2 = s ∧ pointerReads m s = [] := by
      simp only [List.mem_cons, List.not_mem_nil, or_false] at hm
      rcases hm with rfl | rfl | rfl <;> exact ⟨rfl, rfl⟩
    exact ⟨hstate, by simp [readMem_accesses, hptr], fun v => by simp [storeTo_accesses, hptr]⟩

/-- Settles O27: IZX answers the pointer's word as it stands, IZY its indexed sum with Y. -/
theorem indirectModesDereferencePageZero : Obligations.IndirectModesDereferencePageZero := by
  intro b s
  exact ⟨⟨rfl, rfl⟩, ⟨_, rfl, indexed_ea_toNat _ s.y, indexed_cross _ s.y⟩, zext16_toNat,
    fun m _ => ⟨resolve_accesses s m, resolve_cycles s m⟩⟩

end Sys2Proof

/-! SUPPORT. Loads and stores (41_load_store.md R90 to R96): the rows of an encoding from the encoder's table, and the
frames of single updates, which compose along an instruction. -/

namespace Sys2Proof

/-! ### The rows of an encoding (30_encoding.md R56) -/

theorem pickOpcode_of_mem {row : List (Mode × Byte)} (hnodup : (row.map Prod.fst).Nodup) {entry : Mode × Byte}
    (h : entry ∈ row) : pickOpcode entry.1 row = some entry.2 := by
  induction row with
  | nil => cases h
  | cons first row ih =>
    obtain ⟨hfirst, hrow⟩ := List.nodup_cons.1 hnodup
    rcases List.mem_cons.1 h with rfl | h
    · simp [pickOpcode]
    · have hne : first.1 ≠ entry.1 := fun heq => hfirst (heq ▸ List.mem_map_of_mem h)
      rw [pickOpcode, if_neg hne, ih hrow h]

/-- A row of the encoder's table that lists no mode twice is all the encodings of its mnemonic. -/
theorem Statements.rowsOf_of_opcode {i : Instr} {rows : List (Mode × Byte × Nat)}
    (hopcode : i.opcode = pickOpcode i.mode (rows.map fun row => (row.1, row.2.1)))
    (hnodup : (rows.map Prod.fst).Nodup) (hcycles : ∀ row ∈ rows, baseCycles row.2.1 = row.2.2) : RowsOf i rows := by
  have hmodes : (rows.map fun row => (row.1, row.2.1)).map Prod.fst = rows.map Prod.fst := by simp
  constructor
  case left =>
    have hwf : i.wf = (rows.map Prod.fst).contains i.mode := by
      rw [← i.opcode_isSome, hopcode, pickOpcode_isSome, hmodes]
    simp [Instr.WellFormed, hwf, eq_comm]
  case right =>
    intro row hrow hmode
    refine ⟨?_, hcycles row hrow⟩
    rw [hopcode, hmode]
    exact pickOpcode_of_mem (hmodes ▸ hnodup) (List.mem_map_of_mem hrow)

end Sys2Proof

namespace Sys2Proof.Machine

/-! ### Frames of consecutive updates -/

theorem Frame.trans {regs : List Reg} {flags : List Flag} {stored : List Word} {s t u : State}
    (h : Frame regs flags stored s t) (k : Frame regs flags stored t u) : Frame regs flags stored s u where
  registers r hr := (k.registers r hr).trans (h.registers r hr)
  other_flags f hf := (k.other_flags f hf).trans (h.other_flags f hf)
  bit_four := k.bit_four.trans h.bit_four
  bit_five := k.bit_five.trans h.bit_five
  memory addr haddr := (k.memory addr haddr).trans (h.memory addr haddr)
  inputs := {
    nmi_latch := k.inputs.nmi_latch.trans h.inputs.nmi_latch
    irq_line := k.inputs.irq_line.trans h.inputs.irq_line
    reset_req := k.inputs.reset_req.trans h.inputs.reset_req
    io_map := k.inputs.io_map.trans h.inputs.io_map }

theorem ShowsZN.of_frame {v : Byte} {regs : List Reg} {flags : List Flag} {stored : List Word} {s t : State}
    (h : ShowsZN v s) (hframe : Frame regs flags stored s t) (hz : Flag.Z ∉ flags) (hn : Flag.N ∉ flags) :
    ShowsZN v t where
  zero := (hframe.other_flags .Z hz).trans h.zero
  negative := (hframe.other_flags .N hn).trans h.negative

@[simp] theorem State.setZN_reg (s : State) (v : Byte) (r : Reg) : (s.setZN v).reg r = s.reg r := by
  cases r <;> rfl

theorem storeTo_frame (m : MemMode) (v : Byte) (s : State) : Frame [] [] [effAddr m s] s (storeTo m v s) := by
  apply Frame.of_fields
  case hm =>
    intro addr haddr
    have hne : addr ≠ effAddr m s := by simpa using haddr
    rw [storeTo_mem, Memory.read_write_word, if_neg hne]
  all_goals simp

end Sys2Proof.Machine

namespace Sys2Proof.Statements

open Machine

/-! ### Updates that touch no memory -/

section updates

variable {regs : List Reg} {flags : List Flag} {s t u : State}

theorem InPlace.trans (h : InPlace regs flags s t) (k : InPlace regs flags t u) : InPlace regs flags s u :=
  ⟨h.frame.trans k.frame, k.pc.trans h.pc, k.accesses.trans h.accesses, k.cycles.trans h.cycles⟩

theorem ReadsOperand.trans_inPlace {src : Source} (h : ReadsOperand src regs flags s t)
    (k : InPlace regs flags t u) : ReadsOperand src regs flags s u :=
  ⟨h.frame.trans k.frame, k.pc.trans h.pc, k.accesses.trans h.accesses, k.cycles.trans h.cycles⟩

theorem setA_inPlace (h : Reg.A ∈ regs) (v : Byte) : InPlace regs flags s (s.setA v) :=
  ⟨by apply Frame.of_fields <;> simp [h], rfl, rfl, rfl⟩

theorem setX_inPlace (h : Reg.X ∈ regs) (v : Byte) : InPlace regs flags s (s.setX v) :=
  ⟨by apply Frame.of_fields <;> simp [h], rfl, rfl, rfl⟩

theorem setY_inPlace (h : Reg.Y ∈ regs) (v : Byte) : InPlace regs flags s (s.setY v) :=
  ⟨by apply Frame.of_fields <;> simp [h], rfl, rfl, rfl⟩

theorem setFlag_inPlace {f : Flag} (h : f ∈ flags) (b : Bool) : InPlace regs flags s (s.setFlag f b) := by
  refine ⟨?_, rfl, rfl, rfl⟩
  apply Frame.of_fields
  case hf =>
    intro g hg
    have hne : g ≠ f := fun heq => hg (heq ▸ h)
    rw [State.setFlag_p, getFlag_putFlag, if_neg hne]
  all_goals simp

theorem setZN_inPlace (hz : Flag.Z ∈ flags) (hn : Flag.N ∈ flags) (v : Byte) : InPlace regs flags s (s.setZN v) :=
  (setFlag_inPlace hz _).trans (setFlag_inPlace hn _)

theorem readSource_readsOperand (src : Source) (s : State) : ReadsOperand src regs flags s (readSource src s).2 :=
  ⟨by apply Frame.of_fields <;> simp, readSource_pc s src, readSource_accesses s src, readSource_cycles s src⟩

end updates

/-! ### Loads, stores, and one after the other -/

/-- An instruction that reads its operand, puts the byte in `r` and sets Z and N from it is a load of `r` (R90 to R92). -/
theorem loadsInto_of_exec {i : Source → Instr} {r : Reg} (put : State → Byte → State)
    (hexec : ∀ src s, exec (i src) s = .next ((put (readSource src s).2 (readSource src s).1).setZN (readSource src s).1))
    (hreg : ∀ s v, (put s v).reg r = v) (hput : ∀ s v, InPlace [r] [.Z, .N] s (put s v)) : LoadsInto i r := by
  intro src s
  refine ⟨_, hexec src s, ?_, ?_, ?_⟩
  · rw [State.setZN_reg, hreg, readSource_fst]
  · rw [readSource_fst]
    exact State.showsZN_setZN _ _
  · exact ((readSource_readsOperand src s).trans_inPlace (hput _ _)).trans_inPlace
      (setZN_inPlace (by simp) (by simp) _)

theorem storesFrom_of_exec {i : MemMode → Instr} {r : Reg}
    (hexec : ∀ m s, exec (i m) s = .next (storeTo m (s.reg r) s)) : StoresFrom i r := by
  intro m s
  refine ⟨_, hexec m s, ?_, storeTo_frame m _ s, storeTo_pc s m _, storeTo_cycles s m _, storeTo_accesses s m _⟩
  rw [storeTo_mem, Memory.read_write_same]

theorem lda_loadsInto : LoadsInto .lda .A :=
  loadsInto_of_exec State.setA (fun _ _ => rfl) (fun _ _ => rfl) (fun _ v => setA_inPlace (by simp) v)

theorem ldx_loadsInto : LoadsInto .ldx .X :=
  loadsInto_of_exec State.setX (fun _ _ => rfl) (fun _ _ => rfl) (fun _ v => setX_inPlace (by simp) v)

theorem ldy_loadsInto : LoadsInto .ldy .Y :=
  loadsInto_of_exec State.setY (fun _ _ => rfl) (fun _ _ => rfl) (fun _ v => setY_inPlace (by simp) v)

theorem sta_storesFrom : StoresFrom .sta .A := storesFrom_of_exec fun _ _ => rfl

theorem stx_storesFrom : StoresFrom .stx .X := storesFrom_of_exec fun _ _ => rfl

theorem sty_storesFrom : StoresFrom .sty .Y := storesFrom_of_exec fun _ _ => rfl

/-- The store writes the register the load filled, and its frame keeps that register and the flags (R96). -/
theorem load_then_store {load : Source → Instr} {store : MemMode → Instr} {r : Reg} (hload : LoadsInto load r)
    (hstore : StoresFrom store r) {src : Source} {m : MemMode} {s t u : State} (ht : exec (load src) s = .next t)
    (hu : exec (store m) t = .next u) :
    u.mem.read (effAddr m t).toNat = operand src s ∧ u.reg r = operand src s ∧ ShowsZN (operand src s) u := by
  obtain ⟨t', ht', hreg, hzn, -⟩ := hload src s
  obtain rfl : t = t' := by simpa [ht] using ht'
  obtain ⟨u', hu', hmem, hframe, -⟩ := hstore m t
  obtain rfl : u = u' := by simpa [hu] using hu'
  exact ⟨hmem.trans hreg, (hframe.registers r (by simp)).trans hreg, hzn.of_frame hframe (by simp) (by simp)⟩

end Sys2Proof.Statements

namespace Sys2Proof

open Machine Statements

/-- Settles O29: the rows are the encoder's, and a load is a read of the operand, an update of its register and `SetZN`. -/
theorem loadsWriteRegisterAndZN : Obligations.LoadsWriteRegisterAndZN :=
  ⟨fun _ => ⟨rowsOf_of_opcode rfl (by decide) (by decide), rowsOf_of_opcode rfl (by decide) (by decide),
    rowsOf_of_opcode rfl (by decide) (by decide)⟩, lda_loadsInto, ldx_loadsInto, ldy_loadsInto⟩

/-- Settles O30: the rows are the encoder's, and a store is the one operation `storeTo`. -/
theorem storesWriteOneByteAndNoFlag : Obligations.StoresWriteOneByteAndNoFlag :=
  ⟨fun _ => ⟨rowsOf_of_opcode rfl (by decide) (by decide), rowsOf_of_opcode rfl (by decide) (by decide),
    rowsOf_of_opcode rfl (by decide) (by decide)⟩, sta_storesFrom, stx_storesFrom, sty_storesFrom⟩

/-- Settles O31, from what O29 says of the loads and O30 of the stores. -/
theorem loadThenStoreKeepsTheValue : Obligations.LoadThenStoreKeepsTheValue :=
  fun _ _ _ _ _ => ⟨load_then_store lda_loadsInto sta_storesFrom, load_then_store ldx_loadsInto stx_storesFrom,
    load_then_store ldy_loadsInto sty_storesFrom⟩

end Sys2Proof

/-! SUPPORT. Transfers (42_transfer.md R100 to R105): a copy between registers with `SetZN` after it, and TXS, whose copy no
flag follows. -/

namespace Sys2Proof.Machine

/-- The byte a push stores, at its address as a number (10_state.md R13, R15). -/
theorem push_mem_read_stack (v : Byte) (s : State) : (push v s).mem.read (0x0100 + s.sp.toNat) = v := by
  rw [push_mem, stackAddr_toNat, Memory.read_write_same]

end Sys2Proof.Machine

namespace Sys2Proof.Statements

open Machine

theorem setSp_inPlace {regs : List Reg} {flags : List Flag} {s : State} (h : Reg.SP ∈ regs) (v : Byte) :
    InPlace regs flags s (s.setSp v) :=
  ⟨by apply Frame.of_fields <;> simp [h], rfl, rfl, rfl⟩

/-- An instruction that puts the byte of `src` in `dst` and sets Z and N from it is a transfer (R100 to R104). -/
theorem transfers_of_exec {i : Instr} {src dst : Reg} (put : State → Byte → State)
    (hexec : ∀ s, exec i s = .next ((put s (s.reg src)).setZN (s.reg src)))
    (hreg : ∀ s v, (put s v).reg dst = v) (hput : ∀ s v, InPlace [dst] [.Z, .N] s (put s v)) :
    Transfers i src dst := by
  intro s
  refine ⟨_, hexec s, ?_, State.showsZN_setZN _ _, (hput s _).trans (setZN_inPlace (by simp) (by simp) _)⟩
  rw [State.setZN_reg, hreg]

theorem tax_transfers : Transfers .tax .A .X :=
  transfers_of_exec State.setX (fun _ => rfl) (fun _ _ => rfl) (fun _ v => setX_inPlace (by simp) v)

theorem tay_transfers : Transfers .tay .A .Y :=
  transfers_of_exec State.setY (fun _ => rfl) (fun _ _ => rfl) (fun _ v => setY_inPlace (by simp) v)

theorem txa_transfers : Transfers .txa .X .A :=
  transfers_of_exec State.setA (fun _ => rfl) (fun _ _ => rfl) (fun _ v => setA_inPlace (by simp) v)

theorem tya_transfers : Transfers .tya .Y .A :=
  transfers_of_exec State.setA (fun _ => rfl) (fun _ _ => rfl) (fun _ v => setA_inPlace (by simp) v)

theorem tsx_transfers : Transfers .tsx .SP .X :=
  transfers_of_exec State.setX (fun _ => rfl) (fun _ _ => rfl) (fun _ v => setX_inPlace (by simp) v)

end Sys2Proof.Statements

namespace Sys2Proof

open Machine Statements

/-- Settles O32: each of the five is an update of its destination and `SetZN`; the opcode bytes are the encoder's. -/
theorem transfersCopyAndSetZN : Obligations.TransfersCopyAndSetZN :=
  ⟨tax_transfers, tay_transfers, txa_transfers, tya_transfers, tsx_transfers, rfl, rfl, rfl, rfl, rfl, by decide⟩

/-- Settles O33: TXS is the one update of SP, and the push after it stores where the new SP points. -/
theorem txsWritesStackPointerOnly : Obligations.TxsWritesStackPointerOnly := by
  refine ⟨rfl, rfl, fun s => ⟨s.setSp s.x, rfl, rfl, setSp_inPlace (by simp) s.x, push s.a (s.setSp s.x), rfl, ?_⟩⟩
  exact push_mem_read_stack s.a (s.setSp s.x)

end Sys2Proof

/-! SUPPORT. Arithmetic (43_arithmetic.md R110 to R113): the sum of ADC as an unsigned and as a signed number, SBC as the same
sum with the one's complement, and D, which the sum passes by. -/

namespace Sys2Proof.Machine

/-! ### The sum, unsigned and signed (R110, R113) -/

theorem adcResult_toNat (a m : Byte) (c : Bool) : (adcResult a m c).toNat = (a.toNat + m.toNat + c.toNat) % 256 :=
  BitVec.toNat_ofNat _ 8

/-- C with A holds the unsigned sum (R113). -/
theorem adcCarry_adcResult_toNat (a m : Byte) (c : Bool) :
    256 * (adcCarry a m c).toNat + (adcResult a m c).toNat = a.toNat + m.toNat + c.toNat := by
  have hc : c.toNat < 2 := c.toNat_lt
  rw [adcResult_toNat]
  by_cases hsum : a.toNat + m.toNat + c.toNat > 255
  · have hcarry : adcCarry a m c = true := decide_eq_true hsum
    rw [hcarry, Bool.toNat_true]
    omega
  · have hcarry : adcCarry a m c = false := decide_eq_false hsum
    rw [hcarry, Bool.toNat_false]
    omega

theorem byte_toInt (v : Byte) : v.toInt = if v.toNat < 128 then (v.toNat : Int) else v.toNat - 256 := by
  rw [BitVec.toInt_eq_toNat_cond]
  split <;> split <;> omega

theorem getLsbD_seven (v : Byte) : v.getLsbD 7 = decide (128 ≤ v.toNat) := BitVec.msb_eq_decide v

theorem xor_getLsbD_seven (u v : Byte) : (u ^^^ v).getLsbD 7 = true ↔ (u.toNat < 128 ↔ 128 ≤ v.toNat) := by
  rw [BitVec.getLsbD_xor, getLsbD_seven, getLsbD_seven]
  by_cases hu : u.toNat < 128
  · simp [hu, Nat.not_le.2 hu]
  · simp [hu, Nat.not_lt.1 hu]

/-- V says that the signed sum leaves the byte's range (R113): with operands of different signs it cannot, with the same sign
it does exactly where the result's sign differs. -/
theorem adcOverflow_eq_decide (a m : Byte) (c : Bool) :
    adcOverflow a m c = decide (a.toInt + m.toInt + c.toNat < -128 ∨ 127 < a.toInt + m.toInt + c.toNat) := by
  have hc : c.toNat < 2 := c.toNat_lt
  have hsigns : adcOverflow a m c = true ↔
      (a.toNat < 128 ↔ 128 ≤ (adcResult a m c).toNat) ∧ (m.toNat < 128 ↔ 128 ≤ (adcResult a m c).toNat) := by
    rw [adcOverflow, BitVec.getLsbD_and, Bool.and_eq_true, xor_getLsbD_seven, xor_getLsbD_seven]
  rw [Bool.eq_iff_iff, decide_eq_true_iff, hsigns, adcResult_toNat, byte_toInt, byte_toInt]
  split <;> split <;> omega

/-! ### The one's complement (R111) -/

theorem xor_ones_toNat (m : Byte) : (m ^^^ 0xFF).toNat = 255 - m.toNat := by
  have hnot : m ^^^ 0xFF = ~~~m := BitVec.xor_allOnes
  rw [hnot, BitVec.toNat_not]

theorem xor_ones_toInt (m : Byte) : (m ^^^ 0xFF).toInt = -1 - m.toInt := by
  rw [byte_toInt, byte_toInt, xor_ones_toNat]
  split <;> split <;> omega

/-! ### What the sum leaves in the state (R110) -/

section sum

variable (s : State) (m : Byte)

theorem State.addWithCarry_eq :
    s.addWithCarry m = (((s.setFlag .C (adcCarry s.a m (s.flag .C))).setFlag .V (adcOverflow s.a m (s.flag .C))).setA
      (adcResult s.a m (s.flag .C))).setZN (adcResult s.a m (s.flag .C)) := rfl

@[simp] theorem State.addWithCarry_a : (s.addWithCarry m).a = adcResult s.a m (s.flag .C) := rfl

@[simp] theorem State.addWithCarry_flag_C : (s.addWithCarry m).flag .C = adcCarry s.a m (s.flag .C) := by
  rw [State.addWithCarry_eq, State.setZN]
  simp [State.flag, getFlag_putFlag]

@[simp] theorem State.addWithCarry_flag_V : (s.addWithCarry m).flag .V = adcOverflow s.a m (s.flag .C) := by
  rw [State.addWithCarry_eq, State.setZN]
  simp [State.flag, getFlag_putFlag]

theorem State.showsZN_addWithCarry : ShowsZN (s.addWithCarry m).a (s.addWithCarry m) := State.showsZN_setZN _ _

end sum

/-- A and P after the sum come from A, P and the operand alone. -/
theorem State.addWithCarry_congr {s t : State} (ha : s.a = t.a) (hp : s.p = t.p) (m : Byte) :
    (s.addWithCarry m).a = (t.addWithCarry m).a ∧ (s.addWithCarry m).p = (t.addWithCarry m).p := by
  cases s
  cases t
  cases ha
  cases hp
  exact ⟨rfl, rfl⟩

@[simp] theorem readSource_flag (src : Source) (s : State) (f : Flag) : (readSource src s).2.flag f = s.flag f :=
  congrArg (getFlag · f) (readSource_p s src)

theorem exec_adc (src : Source) (s : State) :
    exec (.adc src) s = .next ((readSource src s).2.addWithCarry (operand src s)) := by
  rw [← readSource_fst]
  rfl

theorem exec_sbc (src : Source) (s : State) :
    exec (.sbc src) s = .next ((readSource src s).2.addWithCarry (operand src s ^^^ 0xFF)) := by
  rw [← readSource_fst]
  rfl

/-! ### D passes by -/

theorem putFlag_comm (p : Byte) {f g : Flag} (h : f ≠ g) (b c : Bool) :
    putFlag (putFlag p f b) g c = putFlag (putFlag p g c) f b := by
  apply status_ext
  case hf =>
    intro k
    simp only [getFlag_putFlag]
    by_cases hkg : k = g
    · simp [hkg, h.symm]
    · simp [hkg]
  all_goals simp

theorem State.setFlag_comm (s : State) {f g : Flag} (h : f ≠ g) (b c : Bool) :
    (s.setFlag f b).setFlag g c = (s.setFlag g c).setFlag f b :=
  congrArg s.setP (putFlag_comm s.p h b c)

theorem State.setZN_setFlag_D (s : State) (v : Byte) (d : Bool) :
    (s.setFlag .D d).setZN v = (s.setZN v).setFlag .D d := by
  rw [State.setZN, State.setFlag_comm s (by decide), State.setFlag_comm _ (by decide), State.setZN]

/-- The carry in does not see D, and D commutes with each of the sum's updates. -/
theorem State.addWithCarry_setFlag_D (s : State) (m : Byte) (d : Bool) :
    (s.setFlag .D d).addWithCarry m = (s.addWithCarry m).setFlag .D d := by
  have hcarry : (s.setFlag .D d).flag .C = s.flag .C := by simp
  rw [State.addWithCarry_eq, State.addWithCarry_eq, hcarry, State.setFlag_a, State.setFlag_comm s (by decide),
    State.setFlag_comm _ (by decide), ← State.setZN_setFlag_D]
  rfl

theorem operand_setFlag (src : Source) (s : State) (f : Flag) (b : Bool) :
    operand src (s.setFlag f b) = operand src s := by
  cases src with
  | imm v => rfl
  | mem m => cases m <;> rfl

theorem readSource_setFlag (src : Source) (s : State) (f : Flag) (b : Bool) :
    (readSource src (s.setFlag f b)).2 = (readSource src s).2.setFlag f b := by
  cases src with
  | imm v => rfl
  | mem m => cases m <;> rfl

end Sys2Proof.Machine

namespace Sys2Proof.Statements

open Machine

/-- What ADC and SBC share (R110, R111): from `s` to `t`, `m` and the carry are added to A, and nothing else happens but the
read of the operand. -/
structure AddsWithCarry (src : Source) (m : Byte) (s t : State) : Prop where
  result : t.a = adcResult s.a m (s.flag .C)
  carry : t.flag .C = adcCarry s.a m (s.flag .C)
  overflow : t.flag .V = adcOverflow s.a m (s.flag .C)
  shows : ShowsZN t.a t
  reads : ReadsOperand src [.A] [.C, .V, .Z, .N] s t

theorem addWithCarry_inPlace (s : State) (m : Byte) : InPlace [.A] [.C, .V, .Z, .N] s (s.addWithCarry m) :=
  (((setFlag_inPlace (by simp) _).trans (setFlag_inPlace (by simp) _)).trans (setA_inPlace (by simp) _)).trans
    (setZN_inPlace (by simp) (by simp) _)

theorem readSource_addsWithCarry (src : Source) (m : Byte) (s : State) :
    AddsWithCarry src m s ((readSource src s).2.addWithCarry m) where
  result := by simp
  carry := by simp
  overflow := by simp
  shows := State.showsZN_addWithCarry _ m
  reads := (readSource_readsOperand src s).trans_inPlace (addWithCarry_inPlace _ m)

section values

variable {src : Source} {m : Byte} {s t : State}

theorem AddsWithCarry.result_toNat (h : AddsWithCarry src m s t) :
    t.a.toNat = (s.a.toNat + m.toNat + (s.flag .C).toNat) % 256 := by
  rw [h.result, adcResult_toNat]

theorem AddsWithCarry.overflow_bit (h : AddsWithCarry src m s t) :
    t.flag .V = ((s.a ^^^ t.a) &&& (m ^^^ t.a)).getLsbD 7 := by
  rw [h.overflow, h.result, adcOverflow]

theorem AddsWithCarry.overflow_signed (h : AddsWithCarry src m s t) :
    t.flag .V = decide (s.a.toInt + m.toInt + (s.flag .C).toNat < -128 ∨
      127 < s.a.toInt + m.toInt + (s.flag .C).toNat) := by
  rw [h.overflow, adcOverflow_eq_decide]

theorem AddsWithCarry.carry_result (h : AddsWithCarry src m s t) :
    256 * (t.flag .C).toNat + t.a.toNat = s.a.toNat + m.toNat + (s.flag .C).toNat := by
  rw [h.carry, h.result, adcCarry_adcResult_toNat]

theorem addsWithCarry_of_adc (h : exec (.adc src) s = .next t) : AddsWithCarry src (operand src s) s t := by
  rw [exec_adc] at h
  cases h
  exact readSource_addsWithCarry src _ s

theorem addsWithCarry_of_sbc (h : exec (.sbc src) s = .next t) : AddsWithCarry src (operand src s ^^^ 0xFF) s t := by
  rw [exec_sbc] at h
  cases h
  exact readSource_addsWithCarry src _ s

end values

end Sys2Proof.Statements

namespace Sys2Proof

open Machine Statements

/-- Settles O34: the rows are the encoder's, and ADC is a read of the operand and the sum. -/
theorem adcAddsWithCarry : Obligations.AdcAddsWithCarry := by
  refine ⟨fun _ => rowsOf_of_opcode rfl (by decide) (by decide), fun src s => ?_⟩
  have h := addsWithCarry_of_adc (exec_adc src s)
  exact ⟨_, exec_adc src s, h.result_toNat, h.carry, h.overflow_bit, h.shows, h.reads⟩

/-- Settles O35: SBC is the sum of ADC with the one's complement, whose value is 255 less the operand's. -/
theorem sbcSubtractsWithBorrow : Obligations.SbcSubtractsWithBorrow := by
  refine ⟨fun _ => rowsOf_of_opcode rfl (by decide) (by decide), fun src s => ?_⟩
  have h := addsWithCarry_of_sbc (exec_sbc src s)
  rw [← xor_ones_toNat]
  exact ⟨_, exec_sbc src s, h.result_toNat, h.carry, h.overflow_bit, h.shows, h.reads⟩

/-- Settles O37: a sum with the one's complement `-1 - M` is the difference, and C with A holds the unsigned sum. -/
theorem overflowIsSignedOutOfRange : Obligations.OverflowIsSignedOutOfRange := by
  rintro src s t sum diff rfl hdiff
  refine ⟨fun hadc => ?_, fun hsbc => ?_⟩
  · have h := addsWithCarry_of_adc hadc
    exact ⟨h.overflow_signed, h.carry_result⟩
  · have h := addsWithCarry_of_sbc hsbc
    have hsigned : s.a.toInt + (operand src s ^^^ 0xFF).toInt + (s.flag .C).toNat = diff := by
      rw [xor_ones_toInt]
      omega
    have hunsigned := h.carry_result
    rw [xor_ones_toNat] at hunsigned
    exact ⟨hsigned ▸ h.overflow_signed, by omega⟩

/-- Settles O38: reading an operand and adding it both commute with a write of D. -/
theorem arithmeticIgnoresDecimalFlag : Obligations.ArithmeticIgnoresDecimalFlag := by
  intro src s t d
  constructor
  · intro hadc
    rw [exec_adc] at hadc ⊢
    cases hadc
    rw [operand_setFlag, readSource_setFlag, State.addWithCarry_setFlag_D]
  · intro hsbc
    rw [exec_sbc] at hsbc ⊢
    cases hsbc
    rw [operand_setFlag, readSource_setFlag, State.addWithCarry_setFlag_D]

/-- Settles O36: both are the one sum of the complement, and reading an operand leaves A and P as they were. -/
theorem sbcIsAdcOfComplement : Obligations.SbcIsAdcOfComplement := by
  intro src s t h
  rw [exec_sbc] at h
  cases h
  exact ⟨_, exec_adc _ s, State.addWithCarry_congr (readSource_a s src) (readSource_p s src) _⟩

end Sys2Proof

/-! SUPPORT. Logical instructions (44_logical.md R120 to R123): one lemma for the three that put their result in A, and the
flags of BIT, which stores nothing. -/

namespace Sys2Proof.Machine

theorem State.bitFlags_eq (s : State) (m : Byte) :
    s.bitFlags m = ((s.setFlag .Z (decide (s.a &&& m = 0))).setFlag .N (m.getLsbD 7)).setFlag .V (m.getLsbD 6) := rfl

/-- Z sees A, N and V see the operand alone. -/
@[simp] theorem State.bitFlags_flag_Z (s : State) (m : Byte) :
    (s.bitFlags m).flag .Z = decide (s.a &&& m = 0) := by
  simp [State.bitFlags_eq]

@[simp] theorem State.bitFlags_flag_N (s : State) (m : Byte) : (s.bitFlags m).flag .N = m.getLsbD 7 := by
  simp [State.bitFlags_eq]

@[simp] theorem State.bitFlags_flag_V (s : State) (m : Byte) : (s.bitFlags m).flag .V = m.getLsbD 6 := by
  simp [State.bitFlags_eq]

/-- BIT reads the operand as every instruction with a value in memory does. -/
theorem exec_bit (m : MemMode) (s : State) :
    exec (.bit m) s = .next ((readSource (.mem m) s).2.bitFlags (memOperand m s)) := by
  rw [← readMem_fst]
  rfl

end Sys2Proof.Machine

namespace Sys2Proof.Statements

open Machine

/-- An instruction that reads its operand, puts `f` of A and that byte in A and sets Z and N from the result combines with A
(R120 to R122). -/
theorem combinesWithA_of_exec {i : Source → Instr} {f : Byte → Byte → Byte}
    (hexec : ∀ src s, exec (i src) s = .next
      (((readSource src s).2.setA (f (readSource src s).2.a (readSource src s).1)).setZN
        (f (readSource src s).2.a (readSource src s).1))) : CombinesWithA i f := by
  intro src s
  refine ⟨_, hexec src s, ?_⟩
  rw [readSource_a, readSource_fst]
  have hread : ReadsOperand src [.A] [.Z, .N] s (readSource src s).2 := readSource_readsOperand src s
  exact ⟨rfl, State.showsZN_setZN _ _,
    (hread.trans_inPlace (setA_inPlace (by simp) _)).trans_inPlace (setZN_inPlace (by simp) (by simp) _)⟩

theorem and_combinesWithA : CombinesWithA .and (fun a m => a &&& m) := combinesWithA_of_exec fun _ _ => rfl

theorem ora_combinesWithA : CombinesWithA .ora (fun a m => a ||| m) := combinesWithA_of_exec fun _ _ => rfl

theorem eor_combinesWithA : CombinesWithA .eor (fun a m => a ^^^ m) := combinesWithA_of_exec fun _ _ => rfl

theorem bitFlags_inPlace (s : State) (m : Byte) : InPlace [] [.Z, .N, .V] s (s.bitFlags m) :=
  ((setFlag_inPlace (by simp) _).trans (setFlag_inPlace (by simp) _)).trans (setFlag_inPlace (by simp) _)

end Sys2Proof.Statements

namespace Sys2Proof

open Machine Statements

/-- Settles O39: the rows are the encoder's, and each of the three is a read of the operand, an update of A and `SetZN`. -/
theorem logicalInstructionsCombineWithA : Obligations.LogicalInstructionsCombineWithA :=
  ⟨fun _ => ⟨rowsOf_of_opcode rfl (by decide) (by decide), rowsOf_of_opcode rfl (by decide) (by decide),
    rowsOf_of_opcode rfl (by decide) (by decide)⟩, and_combinesWithA, ora_combinesWithA, eor_combinesWithA⟩

/-- Settles O40: the rows are the encoder's, and BIT is a read of the operand, which keeps A, and three updates of flags. -/
theorem bitTestsMemoryAgainstA : Obligations.BitTestsMemoryAgainstA := by
  refine ⟨fun _ => rowsOf_of_opcode rfl (by decide) (by decide), fun m s => ⟨_, exec_bit m s, ?_, ?_, ?_, ?_⟩⟩
  · rw [State.bitFlags_flag_Z, readSource_a]
  · exact State.bitFlags_flag_N _ _
  · exact State.bitFlags_flag_V _ _
  · exact (readSource_readsOperand (.mem m) s).trans_inPlace (bitFlags_inPlace _ _)

end Sys2Proof

/-! SUPPORT. Shifts and rotates (45_shift_rotate.md R130 to R134): one lemma for the four, which replace A or a memory byte
and set C, Z and N, and the two rotates as inverses of each other on A with C. -/

namespace Sys2Proof.Machine

/-! ### The flags of a shift -/

theorem State.shiftFlags_eq (s : State) (out : Bool) (r : Byte) : s.shiftFlags out r = (s.setFlag .C out).setZN r := rfl

/-- Z and N come after C and leave it. -/
@[simp] theorem State.shiftFlags_flag_C (s : State) (out : Bool) (r : Byte) : (s.shiftFlags out r).flag .C = out := by
  simp [State.shiftFlags_eq, State.setZN]

theorem State.showsZN_shiftFlags (s : State) (out : Bool) (r : Byte) : ShowsZN r (s.shiftFlags out r) :=
  State.showsZN_setZN _ r

/-! ### What a read-modify-write stores, and its frame -/

theorem Frame.mono {regs regs' : List Reg} {flags flags' : List Flag} {stored stored' : List Word} {s t : State}
    (h : Frame regs flags stored s t) (hregs : regs ⊆ regs') (hflags : flags ⊆ flags') (hstored : stored ⊆ stored') :
    Frame regs' flags' stored' s t where
  registers r hr := h.registers r fun hmem => hr (hregs hmem)
  other_flags f hf := h.other_flags f fun hmem => hf (hflags hmem)
  bit_four := h.bit_four
  bit_five := h.bit_five
  memory addr haddr := h.memory addr fun hmem => haddr (hstored hmem)
  inputs := h.inputs

theorem updateMem_mem_read (m : MemMode) (f : Byte → Byte) (s : State) :
    (updateMem m f s).2.mem.read (effAddr m s).toNat = f (memOperand m s) := by
  rw [updateMem_mem, updateMem_old, Memory.read_write_same]

theorem updateMem_frame (m : MemMode) (f : Byte → Byte) (s : State) :
    Frame [] [] [effAddr m s] s (updateMem m f s).2 := by
  apply Frame.of_fields
  case hm =>
    intro addr haddr
    have hne : addr ≠ effAddr m s := by simpa using haddr
    rw [updateMem_mem, Memory.read_write_word, if_neg hne]
  all_goals simp

/-! ### The rotates turn the nine bits of C and the byte, each the other way (R134) -/

theorem getLsbD_toNat (v : Byte) (n : Nat) : (v.getLsbD n).toNat = v.toNat / 2 ^ n % 2 := Nat.toNat_testBit _ _

theorem rotateLeft_getLsbD_zero (c : Bool) (v : Byte) : (rotateLeft c v).getLsbD 0 = c := by
  have hc : c.toNat < 2 := c.toNat_lt
  apply Function.LeftInverse.injective Bool.ofNat_toNat
  rw [getLsbD_toNat, rotateLeft_toNat]
  omega

theorem rotateRight_getLsbD_seven (c : Bool) (v : Byte) : (rotateRight c v).getLsbD 7 = c := by
  have hc : c.toNat < 2 := c.toNat_lt
  apply Function.LeftInverse.injective Bool.ofNat_toNat
  rw [getLsbD_toNat, rotateRight_toNat]
  omega

theorem rotateRight_rotateLeft (c : Bool) (v : Byte) : rotateRight (v.getLsbD 7) (rotateLeft c v) = v := by
  have hc : c.toNat < 2 := c.toNat_lt
  apply BitVec.eq_of_toNat_eq
  rw [rotateRight_toNat, rotateLeft_toNat, getLsbD_toNat]
  omega

theorem rotateLeft_rotateRight (c : Bool) (v : Byte) : rotateLeft (v.getLsbD 0) (rotateRight c v) = v := by
  have hc : c.toNat < 2 := c.toNat_lt
  apply BitVec.eq_of_toNat_eq
  rw [rotateLeft_toNat, rotateRight_toNat, getLsbD_toNat]
  omega

theorem rol_acc_a_flag_C {s t : State} (h : exec (.rol .acc) s = .next t) :
    t.a = rotateLeft (s.flag .C) s.a ∧ t.flag .C = s.a.getLsbD 7 := by
  cases h
  exact ⟨rfl, State.shiftFlags_flag_C _ _ _⟩

theorem ror_acc_a_flag_C {s t : State} (h : exec (.ror .acc) s = .next t) :
    t.a = rotateRight (s.flag .C) s.a ∧ t.flag .C = s.a.getLsbD 0 := by
  cases h
  exact ⟨rfl, State.shiftFlags_flag_C _ _ _⟩

end Sys2Proof.Machine

namespace Sys2Proof.Statements

open Machine

theorem shiftFlags_inPlace {regs : List Reg} (s : State) (out : Bool) (r : Byte) :
    InPlace regs [.C, .Z, .N] s (s.shiftFlags out r) :=
  (setFlag_inPlace (by simp) _).trans (setZN_inPlace (by simp) (by simp) _)

/-- An instruction that replaces its operand by `f` of the old carry and the operand, and then sets C, Z and N, is a shift
(R130 to R133). -/
theorem shifts_of_exec {i : Place → Instr} {res : Byte → Bool → Nat} {out : Byte → Bool} (f : Bool → Byte → Byte)
    (hexec : ∀ pl s, exec (i pl) s = .next ((updatePlace pl (f (s.flag .C)) s).2.shiftFlags
      (out (updatePlace pl (f (s.flag .C)) s).1) (f (s.flag .C) (updatePlace pl (f (s.flag .C)) s).1)))
    (hres : ∀ c v, (f c v).toNat = res v c) : Shifts i res out := by
  constructor
  case left =>
    exact fun s => ⟨_, hexec .acc s, hres _ _, State.shiftFlags_flag_C _ _ _, State.showsZN_shiftFlags _ _ _,
      (setA_inPlace (by simp) _).trans (shiftFlags_inPlace _ _ _)⟩
  case right =>
    intro m s
    have hflags := shiftFlags_inPlace (regs := []) (updateMem m (f (s.flag .C)) s).2 (out (memOperand m s))
      (f (s.flag .C) (memOperand m s))
    refine ⟨_, _, hexec (.mem m) s, hres _ _, updateMem_mem_read m _ s, State.shiftFlags_flag_C _ _ _,
      State.showsZN_shiftFlags _ _ _, ?_, ?_, ?_, ?_⟩
    · exact ((updateMem_frame m _ s).mono (by simp) (by simp) (by simp)).trans
        (hflags.frame.mono (by simp) (by simp) (by simp))
    · exact hflags.pc.trans (updateMem_pc s m _)
    · exact hflags.cycles.trans (updateMem_cycles s m _)
    · exact hflags.accesses.trans (updateMem_accesses s m _)

theorem asl_shifts : Shifts .asl (fun v _ => 2 * v.toNat % 256) (fun v => v.getLsbD 7) :=
  shifts_of_exec (fun _ => shiftLeft) (fun _ _ => rfl) (fun _ => shiftLeft_toNat)

theorem lsr_shifts : Shifts .lsr (fun v _ => v.toNat / 2) (fun v => v.getLsbD 0) :=
  shifts_of_exec (fun _ => shiftRight) (fun _ _ => rfl) (fun _ => shiftRight_toNat)

theorem rol_shifts : Shifts .rol (fun v c => (2 * v.toNat + c.toNat) % 256) (fun v => v.getLsbD 7) :=
  shifts_of_exec rotateLeft (fun _ _ => rfl) rotateLeft_toNat

theorem ror_shifts : Shifts .ror (fun v c => v.toNat / 2 + 128 * c.toNat) (fun v => v.getLsbD 0) :=
  shifts_of_exec rotateRight (fun _ _ => rfl) rotateRight_toNat

end Sys2Proof.Statements

namespace Sys2Proof

open Machine Statements

/-- Settles O41: the rows are the encoder's, and each of the four replaces its operand and sets C, Z and N after it. -/
theorem shiftsMoveOneBit : Obligations.ShiftsMoveOneBit :=
  ⟨fun _ => ⟨rowsOf_of_opcode rfl (by decide) (by decide), rowsOf_of_opcode rfl (by decide) (by decide),
    rowsOf_of_opcode rfl (by decide) (by decide), rowsOf_of_opcode rfl (by decide) (by decide)⟩,
    asl_shifts, lsr_shifts, rol_shifts, ror_shifts⟩

/-- Settles O42: the second rotate takes in, as its carry, the bit the first moved out, and moves out the old carry. -/
theorem oppositeRotatesCancel : Obligations.OppositeRotatesCancel := by
  intro s t u
  refine ⟨fun hrol hror => ?_, fun hror hrol => ?_⟩
  · obtain ⟨hta, htC⟩ := rol_acc_a_flag_C hrol
    obtain ⟨hua, huC⟩ := ror_acc_a_flag_C hror
    exact ⟨by rw [hua, hta, htC, rotateRight_rotateLeft], by rw [huC, hta, rotateLeft_getLsbD_zero]⟩
  · obtain ⟨hta, htC⟩ := ror_acc_a_flag_C hror
    obtain ⟨hua, huC⟩ := rol_acc_a_flag_C hrol
    exact ⟨by rw [hua, hta, htC, rotateLeft_rotateRight], by rw [huC, hta, rotateRight_getLsbD_seven]⟩

end Sys2Proof

/-! SUPPORT. Increments and decrements (46_inc_dec.md R140 to R145): one lemma for the two that change a memory byte and one
for the four that change an index register. -/

namespace Sys2Proof.Statements

open Machine

/-- An instruction that replaces its memory operand by `f` of it and sets Z and N from the result adds to memory what `f`
adds to a byte (R140, R141). -/
theorem addsToMemory_of_exec {i : MemMode → Instr} {delta : Nat} (f : Byte → Byte)
    (hexec : ∀ m s, exec (i m) s = .next ((updateMem m f s).2.setZN (f (updateMem m f s).1)))
    (hadd : ∀ v, (f v).toNat = (v.toNat + delta) % 256) : AddsToMemory i delta := by
  intro m s
  have hzn : InPlace [] [.Z, .N] (updateMem m f s).2 ((updateMem m f s).2.setZN (f (memOperand m s))) :=
    setZN_inPlace (by simp) (by simp) _
  refine ⟨_, _, hexec m s, hadd _, updateMem_mem_read m f s, State.showsZN_setZN _ _, ?_, ?_, ?_, ?_⟩
  · exact ((updateMem_frame m f s).mono (by simp) (by simp) (by simp)).trans
      (hzn.frame.mono (by simp) (by simp) (by simp))
  · exact hzn.pc.trans (updateMem_pc s m f)
  · exact hzn.cycles.trans (updateMem_cycles s m f)
  · exact hzn.accesses.trans (updateMem_accesses s m f)

/-- An instruction that puts `f` of a register back in it and sets Z and N from the result adds to the register what `f` adds
to a byte (R142 to R145). -/
theorem addsToRegister_of_exec {i : Instr} {r : Reg} {delta : Nat} (put : State → Byte → State) (f : Byte → Byte)
    (hexec : ∀ s, exec i s = .next ((put s (f (s.reg r))).setZN (f (s.reg r))))
    (hreg : ∀ s v, (put s v).reg r = v) (hput : ∀ s v, InPlace [r] [.Z, .N] s (put s v))
    (hadd : ∀ v, (f v).toNat = (v.toNat + delta) % 256) : AddsToRegister i r delta := by
  intro s
  have hr : ((put s (f (s.reg r))).setZN (f (s.reg r))).reg r = f (s.reg r) := by rw [State.setZN_reg, hreg]
  refine ⟨_, hexec s, ?_, ?_, (hput s _).trans (setZN_inPlace (by simp) (by simp) _)⟩
  · rw [hr, hadd]
  · rw [hr]
    exact State.showsZN_setZN _ _

theorem inc_addsToMemory : AddsToMemory .inc 1 :=
  addsToMemory_of_exec (· + 1#8) (fun _ _ => rfl) (BitVec.toNat_add · 1#8)

theorem dec_addsToMemory : AddsToMemory .dec 255 :=
  addsToMemory_of_exec (· - 1#8) (fun _ _ => rfl) sub_one_toNat

theorem inx_addsToRegister : AddsToRegister .inx .X 1 :=
  addsToRegister_of_exec State.setX (· + 1#8) (fun _ => rfl) (fun _ _ => rfl) (fun _ v => setX_inPlace (by simp) v)
    (BitVec.toNat_add · 1#8)

theorem iny_addsToRegister : AddsToRegister .iny .Y 1 :=
  addsToRegister_of_exec State.setY (· + 1#8) (fun _ => rfl) (fun _ _ => rfl) (fun _ v => setY_inPlace (by simp) v)
    (BitVec.toNat_add · 1#8)

theorem dex_addsToRegister : AddsToRegister .dex .X 255 :=
  addsToRegister_of_exec State.setX (· - 1#8) (fun _ => rfl) (fun _ _ => rfl) (fun _ v => setX_inPlace (by simp) v)
    sub_one_toNat

theorem dey_addsToRegister : AddsToRegister .dey .Y 255 :=
  addsToRegister_of_exec State.setY (· - 1#8) (fun _ => rfl) (fun _ _ => rfl) (fun _ v => setY_inPlace (by simp) v)
    sub_one_toNat

end Sys2Proof.Statements

namespace Sys2Proof

open Machine Statements

/-- Settles O43: the rows are the encoder's, and INC and DEC are one read-modify-write and `SetZN` of what it stored. -/
theorem incDecChangeMemoryByOne : Obligations.IncDecChangeMemoryByOne :=
  ⟨fun _ => ⟨rowsOf_of_opcode rfl (by decide) (by decide), rowsOf_of_opcode rfl (by decide) (by decide)⟩,
    inc_addsToMemory, dec_addsToMemory⟩

/-- Settles O44: each of the four is an update of its register and `SetZN`; the opcode bytes are the encoder's. -/
theorem indexRegistersWrapAtEightBits : Obligations.IndexRegistersWrapAtEightBits :=
  ⟨inx_addsToRegister, iny_addsToRegister, dex_addsToRegister, dey_addsToRegister, rfl, rfl, rfl, rfl, by decide⟩

end Sys2Proof

/-! SUPPORT. Compares (47_compare.md R150 to R153): one lemma for the three, and the branch after a CMP, which sees the same
flags as one after SEC and SBC. -/

namespace Sys2Proof.Machine

/-! ### The flags of a compare (R150 to R152) -/

section flags

variable (s : State) (r m : Byte)

theorem State.compare_eq :
    s.compare r m =
      ((s.setFlag .C (decide (m.toNat ≤ r.toNat))).setFlag .Z (decide (r = m))).setFlag .N ((r - m).getLsbD 7) := rfl

@[simp] theorem State.compare_flag_C : (s.compare r m).flag .C = decide (m.toNat ≤ r.toNat) := by
  simp [State.compare_eq]

@[simp] theorem State.compare_flag_Z : (s.compare r m).flag .Z = decide (r = m) := by
  simp [State.compare_eq]

@[simp] theorem State.compare_flag_N : (s.compare r m).flag .N = (r - m).getLsbD 7 := by
  simp [State.compare_eq]

end flags

theorem sub_getLsbD_seven (r m : Byte) :
    (r - m).getLsbD 7 = decide (128 ≤ (r.toNat + 256 - m.toNat) % 256) := by
  have hval : (r - m).toNat = (r.toNat + 256 - m.toNat) % 256 := by
    rw [BitVec.toNat_sub]
    omega
  rw [getLsbD_seven, hval]

/-! ### SBC with the carry set (R153) -/

/-- With the carry in set, the sum with the one's complement is the plain difference. -/
theorem adcResult_complement_carry (a m : Byte) : adcResult a (m ^^^ 0xFF) true = a - m := by
  apply BitVec.eq_of_toNat_eq
  rw [adcResult_toNat, xor_ones_toNat, BitVec.toNat_sub, Bool.toNat_true]
  omega

theorem adcCarry_complement_carry (a m : Byte) : adcCarry a (m ^^^ 0xFF) true = decide (m.toNat ≤ a.toNat) := by
  rw [adcCarry, adcSum, xor_ones_toNat, Bool.toNat_true, decide_eq_decide]
  omega

/-! ### Where a branch goes (48_control_transfer.md R160) -/

theorem branchIf_taken {f : Flag} {want : Bool} (disp : Byte) {s : State} (h : s.flag f = want) :
    branchIf f want disp s = (s.setPc (branchTarget s.pc disp)).addCycles
      (1 + penalty (pageCross (branchTarget s.pc disp) s.pc)) := if_pos h

theorem branchIf_pc (f : Flag) (want : Bool) (disp : Byte) (s : State) :
    (branchIf f want disp s).pc = if s.flag f = want then s.pc + sext16 disp else s.pc := by
  split
  · next h => rw [branchIf_taken disp h]; rfl
  · next h => rw [branchIf_not_taken disp h]

/-- A branch whose flag shows the proposition `P` goes to its target exactly where `P` has the truth value it waits for. -/
theorem branchIf_pc_of_decide {f : Flag} {want : Bool} {P Q : Prop} [Decidable P] [Decidable Q] {s : State} (disp : Byte)
    (hflag : s.flag f = decide P) (hQ : (decide P = want) ↔ Q) :
    (branchIf f want disp s).pc = if Q then s.pc + sext16 disp else s.pc := by
  rw [branchIf_pc, hflag]
  simp only [hQ]

end Sys2Proof.Machine

namespace Sys2Proof.Statements

open Machine

theorem compare_inPlace (s : State) (r m : Byte) : InPlace [] [.C, .Z, .N] s (s.compare r m) :=
  ((setFlag_inPlace (by simp) _).trans (setFlag_inPlace (by simp) _)).trans (setFlag_inPlace (by simp) _)

theorem readSource_reg (src : Source) (s : State) (r : Reg) : (readSource src s).2.reg r = s.reg r :=
  (readSource_readsOperand (regs := []) (flags := []) src s).frame.registers r (by simp)

/-- An instruction that reads its operand and compares `r` with it is a compare of `r` (R150 to R152). -/
theorem comparesWith_of_exec {i : Source → Instr} {r : Reg}
    (hexec : ∀ src s, exec (i src) s =
      .next ((readSource src s).2.compare ((readSource src s).2.reg r) (readSource src s).1)) : ComparesWith i r := by
  intro src s
  refine ⟨_, hexec src s, ?_⟩
  rw [readSource_reg, readSource_fst, ← sub_getLsbD_seven]
  exact ⟨State.compare_flag_C _ _ _, State.compare_flag_Z _ _ _, State.compare_flag_N _ _ _,
    (readSource_readsOperand src s).trans_inPlace (compare_inPlace _ _ _)⟩

theorem cmp_comparesWith : ComparesWith .cmp .A := comparesWith_of_exec fun _ _ => rfl

theorem cpx_comparesWith : ComparesWith .cpx .X := comparesWith_of_exec fun _ _ => rfl

theorem cpy_comparesWith : ComparesWith .cpy .Y := comparesWith_of_exec fun _ _ => rfl

/-- The flags SEC and SBC leave are those of the plain difference (R153). -/
theorem flags_of_sec_sbc {src : Source} {s u v : State} (hsec : exec .sec s = .next u) (hsbc : exec (.sbc src) u = .next v) :
    v.flag .C = decide ((operand src s).toNat ≤ s.a.toNat) ∧ ShowsZN (s.a - operand src s) v := by
  cases hsec
  have h := addsWithCarry_of_sbc hsbc
  have hcarry : (s.setFlag .C true).flag .C = true := by simp
  have hresult := h.result
  have hC := h.carry
  rw [operand_setFlag, hcarry, adcResult_complement_carry] at hresult
  rw [operand_setFlag, hcarry, adcCarry_complement_carry] at hC
  exact ⟨hC, hresult ▸ h.shows⟩

end Sys2Proof.Statements

namespace Sys2Proof

open Machine Statements

/-- Settles O45: the rows are the encoder's, and each of the three is a read of the operand and three updates of flags. -/
theorem comparesSetFlagsOnly : Obligations.ComparesSetFlagsOnly :=
  ⟨fun _ => ⟨rowsOf_of_opcode rfl (by decide) (by decide), rowsOf_of_opcode rfl (by decide) (by decide),
    rowsOf_of_opcode rfl (by decide) (by decide)⟩, cmp_comparesWith, cpx_comparesWith, cpy_comparesWith⟩

/-- Settles O46: CMP and SEC with SBC both show the difference, and a branch tests one of the flags that show it. -/
theorem compareAgreesWithSubtraction : Obligations.CompareAgreesWithSubtraction := by
  intro src s t u v hcmp hsec hsbc
  obtain ⟨t', ht', hC, hZ, hN, -⟩ := cmp_comparesWith src s
  obtain rfl : t = t' := by simpa [hcmp] using ht'
  obtain ⟨hvC, hvZN⟩ := flags_of_sec_sbc hsec hsbc
  refine ⟨hC.trans hvC.symm, ?_, ?_, fun disp => ⟨⟨_, rfl, ?bcs⟩, ⟨_, rfl, ?bcc⟩, ⟨_, rfl, ?beq⟩, ⟨_, rfl, ?bne⟩⟩⟩
  · rw [hZ, hvZN.zero, decide_eq_decide]
    exact sub_eq_zero.symm
  · rw [hN, hvZN.negative, sub_getLsbD_seven]
    rfl
  case bcs => exact branchIf_pc_of_decide disp hC decide_eq_true_iff
  case bcc => exact branchIf_pc_of_decide disp hC (decide_eq_false_iff_not.trans Nat.not_le)
  case beq => exact branchIf_pc_of_decide disp hZ decide_eq_true_iff
  case bne => exact branchIf_pc_of_decide disp hZ decide_eq_false_iff_not

end Sys2Proof

/-! SUPPORT. Control transfer (48_control_transfer.md R160 to R172): the eight branches as one operation, JMP, and JSR with
RTS as pushes and pulls of a word. -/

namespace Sys2Proof.Machine

/-! ### Branches (R160; 70_reset_and_hazards.md R243) -/

/-- The target as an integer: the displacement is signed and the sum wraps mod 65536 (40_addressing_modes.md R82). -/
theorem branchTarget_toNat (pc0 : Word) (disp : Byte) :
    ((branchTarget (pc0 + 2#16) disp).toNat : Int) = ((pc0.toNat : Int) + 2 + disp.toInt) % 65536 := by
  have hsum : branchTarget (pc0 + 2#16) disp = BitVec.ofInt 16 (pc0.toNat + 2 + disp.toInt) := by
    rw [BitVec.ofInt_add, BitVec.ofInt_add, BitVec.ofInt_natCast, BitVec.ofNat_toNat, BitVec.setWidth_eq]
    rfl
  rw [hsum, BitVec.toNat_ofInt]
  omega

theorem branchIf_cycles (f : Flag) (want : Bool) (disp : Byte) (s : State) :
    (branchIf f want disp s).cycles = s.cycles + if s.flag f = want then
      (if (branchIf f want disp s).pc.toNat / 256 = s.pc.toNat / 256 then 1 else 2) else 0 := by
  by_cases h : s.flag f = want
  · rw [branchIf_taken disp h, if_pos h]
    by_cases hpage : (branchTarget s.pc disp).toNat / 256 = s.pc.toNat / 256 <;>
      simp [penalty, pageCross_eq_decide, hpage]
  · rw [branchIf_not_taken disp h, if_neg h, Nat.add_zero]

theorem branchIf_accesses (f : Flag) (want : Bool) (disp : Byte) (s : State) :
    (branchIf f want disp s).accesses = s.accesses := by
  unfold branchIf
  split <;> rfl

theorem setPc_frame (w : Word) (s : State) : Frame [] [] [] s (s.setPc w) := by
  apply Frame.of_fields <;> simp

theorem addCycles_frame (n : Nat) (s : State) : Frame [] [] [] s (s.addCycles n) := by
  apply Frame.of_fields <;> simp

theorem Frame.refl (s : State) : Frame [] [] [] s s := by
  apply Frame.of_fields <;> simp

theorem branchIf_frame (f : Flag) (want : Bool) (disp : Byte) (s : State) : Frame [] [] [] s (branchIf f want disp s) := by
  unfold branchIf
  split
  · exact (setPc_frame _ s).trans (addCycles_frame _ _)
  · exact .refl s

/-! ### JMP (R169) -/

theorem pointerHighAddr_eq (ptr : Word) : pointerHighAddr ptr = BitVec.ofNat 16 ((ptr.toNat + 1) % 65536) := by
  apply BitVec.eq_of_toNat_eq
  simp [pointerHighAddr, Config.jmpIndPageWrap, BitVec.toNat_add]

theorem jumpTarget_setPc_frame (target : Target) (w : Word) (s : State) :
    Frame [] [] [] s ((jumpTarget target s).2.setPc w) := by
  apply Frame.of_fields <;> simp

theorem jumpTarget_ind_fst (ptr : Word) (s : State) :
    (jumpTarget (.ind ptr) s).1 = wordOf ((s.noteRead ptr).busAnswer (pointerHighAddr ptr)) (s.busAnswer ptr) := rfl

theorem jumpTarget_ind_accesses (ptr : Word) (s : State) :
    (jumpTarget (.ind ptr) s).2.accesses = s.accesses ++ [.read ptr, .read (pointerHighAddr ptr)] := by
  simp [jumpTarget]

/-! ### A word on the stack (10_state.md R15, R16; 20_memory.md R34) -/

theorem sub_one_sub_one (v : Byte) : v - 1#8 - 1#8 = v - 2#8 := BitVec.sub_sub v 1#8 1#8

theorem add_one_add_one (v : Byte) : v + 1#8 + 1#8 = v + 2#8 := BitVec.add_assoc v 1#8 1#8

theorem sub_one_sub_two (v : Byte) : v - 1#8 - 2#8 = v - 3#8 := BitVec.sub_sub v 1#8 2#8

theorem add_one_add_two (v : Byte) : v + 1#8 + 2#8 = v + 3#8 := BitVec.add_assoc v 1#8 2#8

theorem sub_one_ne (v : Byte) : v - 1#8 ≠ v := by bv_omega

theorem sub_two_ne (v : Byte) : v - 2#8 ≠ v := by bv_omega

theorem sub_two_ne_sub_one (v : Byte) : v - 2#8 ≠ v - 1#8 := by bv_omega

theorem push_frame (v : Byte) (s : State) : Frame [.SP] [] [stackAddr s.sp] s (push v s) := by
  apply Frame.of_fields
  case hm =>
    intro addr haddr
    have hne : addr ≠ stackAddr s.sp := by simpa using haddr
    rw [push_mem, Memory.read_write_word, if_neg hne]
  all_goals simp

@[simp] theorem push_cycles (v : Byte) (s : State) : (push v s).cycles = s.cycles := rfl

@[simp] theorem push_ioReads (v : Byte) (s : State) : (push v s).ioReads = s.ioReads := rfl

@[simp] theorem pushWord_cycles (w : Word) (s : State) : (pushWord w s).cycles = s.cycles := by simp [pushWord]

@[simp] theorem pushWord_ioReads (w : Word) (s : State) : (pushWord w s).ioReads = s.ioReads := by simp [pushWord]

theorem pushWord_frame (w : Word) (s : State) :
    Frame [.SP] [] [stackAddr s.sp, stackAddr (s.sp - 1#8)] s (pushWord w s) :=
  ((push_frame (highByte w) s).mono (by simp) (by simp) (by simp)).trans
    ((push_frame (lowByte w) (push (highByte w) s)).mono (by simp) (by simp) (by simp))

theorem pushWord_accesses (w : Word) (s : State) : (pushWord w s).accesses = s.accesses ++
    [.write (stackAddr s.sp) (highByte w), .write (stackAddr (s.sp - 1#8)) (lowByte w)] := by
  simp [pushWord, push]

/-- The low byte goes to another address than the high byte, so both stay (also where SP wraps). -/
theorem pushWord_mem_read_high (w : Word) (s : State) :
    (pushWord w s).mem.read (stackAddr s.sp).toNat = highByte w := by
  have hne : stackAddr s.sp ≠ stackAddr (s.sp - 1#8) := by simpa using (sub_one_ne s.sp).symm
  rw [pushWord_mem, Memory.read_write_word, if_neg hne, Memory.read_write_same]

theorem pushWord_mem_read_low (w : Word) (s : State) :
    (pushWord w s).mem.read (stackAddr (s.sp - 1#8)).toNat = lowByte w := by
  rw [pushWord_mem, Memory.read_write_same]

/-- What JSR leaves is a pushed word and a new PC; `pc0 + 2` is one less than the PC it finds. -/
theorem exec_jsr {w pc0 : Word} {s : State} (hpc : s.pc = pc0 + 3#16) :
    exec (.jsr w) s = .next ((pushWord (pc0 + 2#16) s).setPc w) := by
  have hret : s.pc - 1#16 = pc0 + 2#16 := by rw [hpc]; bv_omega
  rw [← hret]
  rfl

theorem pull_frame (s : State) : Frame [.SP] [] [] s (pull s).2 := by
  apply Frame.of_fields <;> simp

theorem pullWord_frame (s : State) : Frame [.SP] [] [] s (pullWord s).2 := (pull_frame s).trans (pull_frame _)

theorem pull_accesses (s : State) : (pull s).2.accesses = s.accesses ++ [.read (stackAddr (s.sp + 1#8))] := rfl

theorem pullWord_accesses (s : State) : (pullWord s).2.accesses = s.accesses ++
    [.read (stackAddr (s.sp + 1#8)), .read (stackAddr (s.sp + 2#8))] := by
  simp [pullWord, pull_accesses, add_one_add_one]

@[simp] theorem pull_cycles (s : State) : (pull s).2.cycles = s.cycles := rfl

@[simp] theorem pullWord_cycles (s : State) : (pullWord s).2.cycles = s.cycles := by simp [pullWord]

@[simp] theorem pull_busAnswer (w : Word) (s : State) :
    (pull s).2.busAnswer w = (s.noteRead (stackAddr (s.sp + 1#8))).busAnswer w := rfl

theorem pullWord_fst (s : State) : (pullWord s).1 =
    wordOf ((s.noteRead (stackAddr (s.sp + 1#8))).busAnswer (stackAddr (s.sp + 2#8)))
      (s.busAnswer (stackAddr (s.sp + 1#8))) := by
  simp [pullWord, add_one_add_one]

/-- In plain memory the word pulled is the word stored. -/
theorem pullWord_plain {s : State} (hlow : s.isIo (stackAddr (s.sp + 1#8)) = false)
    (hhigh : s.isIo (stackAddr (s.sp + 2#8)) = false) : (pullWord s).1 =
    wordOf (s.mem.read (stackAddr (s.sp + 2#8)).toNat) (s.mem.read (stackAddr (s.sp + 1#8)).toNat) := by
  rw [pullWord_fst, State.busAnswer_plain hlow, State.busAnswer_plain ((State.noteRead_isIo _ _ _).trans hhigh),
    State.noteRead_mem]

end Sys2Proof.Machine

namespace Sys2Proof.Statements

open Machine

/-- An instruction that is `branchIf` on a flag is a branch on it (R160 to R168). -/
theorem branchesOn_of_exec {i : Byte → Instr} {op : Byte} {f : Flag} {want : Bool}
    (hexec : ∀ disp s, exec (i disp) s = .next (branchIf f want disp s)) (hmode : ∀ disp, (i disp).mode = .rel)
    (hopcode : ∀ disp, (i disp).opcode = some op) (hcycles : baseCycles op = 2) : BranchesOn i op f want := by
  intro disp s pc0 hpc
  have hlength : (i disp).length = 2 := by rw [Instr.length, hmode, Mode.length]
  refine ⟨hmode disp, hlength, hopcode disp, hcycles, _, hexec disp s, ?_, branchIf_cycles f want disp s,
    branchIf_frame f want disp s, branchIf_accesses f want disp s⟩
  by_cases h : s.flag f = want
  · rw [branchIf_taken disp h, if_pos h, State.addCycles_pc, State.setPc_pc, hpc, branchTarget_toNat]
  · rw [branchIf_not_taken disp h, if_neg h, hpc, BitVec.toNat_add]
    rfl

end Sys2Proof.Statements

namespace Sys2Proof

open Machine Statements

/-- Settles O47: each of the eight is `branchIf` on its flag. -/
theorem branchesTestOneFlag : Obligations.BranchesTestOneFlag := by
  refine ⟨?_, ?_, ?_, ?_, ?_, ?_, ?_, ?_⟩ <;>
    exact branchesOn_of_exec (fun _ _ => rfl) (fun _ => rfl) (fun _ => rfl) rfl

/-- Settles O48: the rows are the encoder's; the ABS target is the operand, the IND target what `jumpTarget` reads. -/
theorem jmpSetsPc : Obligations.JmpSetsPc := by
  refine ⟨fun _ => rowsOf_of_opcode rfl (by decide) (by decide), fun w s => ⟨⟨_, rfl, rfl, setPc_frame w s, rfl, rfl⟩, ?_⟩⟩
  rw [← pointerHighAddr_eq]
  exact ⟨_, rfl, jumpTarget_ind_fst w s, jumpTarget_setPc_frame (.ind w) _ s, jumpTarget_ind_accesses w s, rfl⟩

/-- Settles O49: JSR is the push of a word, then an update of PC. -/
theorem jsrPushesReturnAddress : Obligations.JsrPushesReturnAddress := by
  refine ⟨fun _ => rfl, rfl, fun w pc0 s hpc => ⟨_, exec_jsr hpc, rfl, ?_, pushWord_mem_read_high (pc0 + 2#16) s,
    pushWord_mem_read_low (pc0 + 2#16) s, ?_, pushWord_cycles (pc0 + 2#16) s, pushWord_accesses (pc0 + 2#16) s⟩⟩
  · rw [State.setPc_sp, pushWord_sp, sub_one_sub_one]
  · exact (pushWord_frame _ s).trans ((setPc_frame w _).mono (by simp) (by simp) (by simp))

/-- Settles O50: RTS is the pull of a word, then an update of PC. -/
theorem rtsPullsAndAddsOne : Obligations.RtsPullsAndAddsOne := by
  refine ⟨rfl, rfl, fun s => ⟨_, rfl, ?_, ?_, ?_, pullWord_cycles s, pullWord_accesses s⟩⟩
  · rw [State.setPc_pc, pullWord_fst]
  · rw [State.setPc_sp, pullWord_sp, add_one_add_one]
  · exact (pullWord_frame s).trans ((setPc_frame _ _).mono (by simp) (by simp) (by simp))

/-- Settles O51: SP points two below where it was, so the pulled word is the pushed one. -/
theorem rtsReturnsAfterJsr : Obligations.RtsReturnsAfterJsr := by
  intro w pc0 s t t' u hpc hjsr hsp hkept hrts
  rw [exec_jsr hpc] at hjsr
  cases hjsr
  cases hrts
  have hsp2 : t'.sp + 2#8 = s.sp := by rw [hsp, State.setPc_sp, pushWord_sp]; bv_omega
  have hsp1 : t'.sp + 1#8 = s.sp - 1#8 := by rw [← hsp2]; bv_omega
  obtain ⟨hioHigh, hhigh⟩ := hkept (stackAddr s.sp) (by simp)
  obtain ⟨hioLow, hlow⟩ := hkept (stackAddr (s.sp - 1#8)) (by simp)
  have hword : (pullWord t').1 = pc0 + 2#16 := by
    rw [pullWord_plain (hsp1 ▸ hioLow) (hsp2 ▸ hioHigh), hsp1, hsp2, hhigh, hlow, State.setPc_mem,
      pushWord_mem_read_high, pushWord_mem_read_low, wordOf_high_low]
  constructor
  · rw [State.setPc_pc, hword]
    exact BitVec.add_assoc pc0 2#16 1#16
  · rw [State.setPc_sp, pullWord_sp, add_one_add_one, hsp2]

end Sys2Proof

/-! SUPPORT. Stack, flags, system (49_stack_flag_system.md R180 to R192): the pushes, the seven flag instructions, and RTI,
in general and from a stack in plain memory. -/

namespace Sys2Proof.Machine

/-! ### RTI (R192) -/

theorem returnFromInterrupt_sp_eq (s : State) : (returnFromInterrupt s).sp = s.sp + 3#8 := by
  rw [returnFromInterrupt_sp, add_one_add_one, add_one_add_two]

theorem returnFromInterrupt_p_eq (s : State) :
    (returnFromInterrupt s).p = statusFromStack (s.busAnswer (stackAddr (s.sp + 1#8))) := by
  rw [returnFromInterrupt_p, pull_fst, setSp_busAnswer]

theorem returnFromInterrupt_pc_eq (s : State) : (returnFromInterrupt s).pc =
    wordOf (((s.noteRead (stackAddr (s.sp + 1#8))).noteRead (stackAddr (s.sp + 2#8))).busAnswer (stackAddr (s.sp + 3#8)))
      ((s.noteRead (stackAddr (s.sp + 1#8))).busAnswer (stackAddr (s.sp + 2#8))) := by
  rw [returnFromInterrupt_pc, pullWord_fst, State.setP_sp, pull_sp, add_one_add_one, add_one_add_two]
  rfl

theorem returnFromInterrupt_accesses (s : State) : (returnFromInterrupt s).accesses = s.accesses ++
    [.read (stackAddr (s.sp + 1#8)), .read (stackAddr (s.sp + 2#8)), .read (stackAddr (s.sp + 3#8))] := by
  simp [returnFromInterrupt, pullWord_accesses, pull_accesses, add_one_add_one, add_one_add_two]

theorem returnFromInterrupt_cycles (s : State) : (returnFromInterrupt s).cycles = s.cycles := by
  simp [returnFromInterrupt]

/-- Once the new P is granted, RTI changes SP and PC only. -/
theorem returnFromInterrupt_frame (s : State) :
    Frame [.SP] [] [] (s.setP (returnFromInterrupt s).p) (returnFromInterrupt s) := by
  apply Frame.of_fields <;> simp

/-- In plain memory RTI loads P and PC from the bytes stored on the stack. -/
theorem returnFromInterrupt_plain {s : State} (h1 : s.isIo (stackAddr (s.sp + 1#8)) = false)
    (h2 : s.isIo (stackAddr (s.sp + 2#8)) = false) (h3 : s.isIo (stackAddr (s.sp + 3#8)) = false) :
    (returnFromInterrupt s).p = statusFromStack (s.mem.read (stackAddr (s.sp + 1#8)).toNat) ∧
      (returnFromInterrupt s).pc = wordOf (s.mem.read (stackAddr (s.sp + 3#8)).toNat)
        (s.mem.read (stackAddr (s.sp + 2#8)).toNat) := by
  constructor
  · rw [returnFromInterrupt_p_eq, State.busAnswer_plain h1]
  · rw [returnFromInterrupt_pc_eq, State.busAnswer_plain (by simpa using h3), State.busAnswer_plain (by simpa using h2)]
    rfl

end Sys2Proof.Machine

namespace Sys2Proof.Statements

open Machine

/-- An instruction that is one update of the flag `f` changes no other bit of anything (R184 to R190). -/
theorem putsFlag_of_exec {i : Instr} {op : Byte} {f : Flag} {b : Bool} (hopcode : i.opcode = some op)
    (hcycles : baseCycles op = 2) (hexec : ∀ s, exec i s = .next (s.setFlag f b)) : PutsFlag i op f b :=
  ⟨hopcode, hcycles, fun s => ⟨_, hexec s, getFlag_putFlag_same s.p f b, setFlag_inPlace (by simp) b⟩⟩

end Sys2Proof.Statements

namespace Sys2Proof

open Machine Statements

/-- Settles O52: each of the two is the push of its byte. -/
theorem pushesWriteThenDecrement : Obligations.PushesWriteThenDecrement := by
  refine ⟨rfl, rfl, rfl, rfl, fun s => ⟨stackAddr_toNat s.sp, fun iv hiv => ?_⟩⟩
  have hexec : exec iv.1 s = .next (push iv.2 s) := by
    obtain rfl | rfl : iv = (.pha, s.a) ∨ iv = (.php, s.p ||| 0x30) := by simpa using hiv
    · rfl
    · rfl
  exact ⟨_, hexec, push_mem_read_stack _ s, sub_one_toNat s.sp, push_frame _ s, rfl, rfl, rfl⟩

/-- Settles O55: each of the seven is one update of its flag. -/
theorem flagInstructionsPutOneBit : Obligations.FlagInstructionsPutOneBit := by
  refine ⟨?_, ?_, ?_, ?_, ?_, ?_, ?_⟩ <;> exact putsFlag_of_exec rfl rfl fun _ => rfl

/-- Settles O57: RTI is `returnFromInterrupt`, with the three reads one after another. -/
theorem rtiPullsFlagsAndPc : Obligations.RtiPullsFlagsAndPc := by
  refine ⟨rfl, rfl, ?_⟩
  rintro s s1 s2 v rfl rfl rfl
  exact ⟨_, rfl, returnFromInterrupt_p_eq s, returnFromInterrupt_pc_eq s, returnFromInterrupt_sp_eq s,
    returnFromInterrupt_frame s, returnFromInterrupt_cycles s, returnFromInterrupt_accesses s⟩

end Sys2Proof

/-! SUPPORT. Exceptions (60_exceptions.md R200 to R210): which entry a step takes, what an entry that pushes leaves, and the
RTI that undoes it. -/

namespace Sys2Proof.Machine

/-! ### What a step takes, in priority order (R203, R204) -/

section priority

variable {s : State}

theorem step_of_reset (hreset : s.resetReq = true) : step s = .next (entryStep .reset s) :=
  step_of_recognise (by simp [recognise, hreset])

theorem step_of_nmi (hreset : s.resetReq = false) (hnmi : s.nmiPending = true) : step s = .next (entryStep .nmi s) :=
  step_of_recognise (by simp [recognise, hreset, hnmi])

theorem step_of_irq (hreset : s.resetReq = false) (hnmi : s.nmiPending = false) (hirq : s.irqLine = true)
    (hI : s.flag .I = false) : step s = .next (entryStep .irq s) :=
  step_of_recognise (by simp [recognise, hreset, hnmi, hirq, hI])

theorem step_of_noEntry (h : NoEntry s) : step s = exec (fetch s.beginStep).1 (fetch s.beginStep).2 :=
  step_of_no_entry (recognise_of_noEntry h)

end priority

/-! ### The vector is read from memory the pushes did not touch (R205) -/

theorem ne_stackAddr {w : Word} (h : 512 ≤ w.toNat) (sp : Byte) : w ≠ stackAddr sp := by
  rintro rfl
  have := stackAddr_toNat sp
  omega

theorem InterruptKind.vector_above_stack (k : InterruptKind) :
    512 ≤ k.vector.toNat ∧ 512 ≤ (k.vector + 1#16).toNat := by
  cases k <;> decide

/-- The bus answers a word alike in two states with the same two bytes, map and count of I/O reads. -/
theorem busWord_congr {s t : State} (w : Word) (hlow : t.mem.read w.toNat = s.mem.read w.toNat)
    (hhigh : t.mem.read (w + 1#16).toNat = s.mem.read (w + 1#16).toNat) (hio : t.ioRegions = s.ioRegions)
    (hn : t.ioReads = s.ioReads) : busWord w t = busWord w s := by
  have hnote : (t.noteRead w).ioReads = (s.noteRead w).ioReads := by simp [State.isIo, hio, hn]
  rw [busWord, busWord, busAnswer_congr w hlow hio hn,
    busAnswer_congr (s := s.noteRead w) (t := t.noteRead w) (w + 1#16) hhigh hio hnote]

theorem read16_fst (w : Word) (s : State) : (read16 w s).1 = busWord w s := rfl

theorem read16_cycles (w : Word) (s : State) : (read16 w s).2.cycles = s.cycles := rfl

/-! ### The interrupt sequence (R205) -/

section sequence

variable (k : InterruptKind) (ret : Word) (s : State)

theorem interruptSequence_sp_eq : (interruptSequence k ret s).sp = s.sp - 3#8 := by
  rw [interruptSequence_sp, sub_one_sub_one, sub_one_sub_two]

/-- Memory after the three pushes, the last one first; their addresses differ, also where SP wraps. -/
theorem interruptSequence_mem_read (addr : Word) : (interruptSequence k ret s).mem.read addr.toNat =
    if addr = stackAddr (s.sp - 2#8) then k.pushedStatus s.p else if addr = stackAddr (s.sp - 1#8) then lowByte ret
    else if addr = stackAddr s.sp then highByte ret else s.mem.read addr.toNat := by
  rw [interruptSequence_mem, sub_one_sub_one, Memory.read_write_word, Memory.read_write_word, Memory.read_write_word]

theorem interruptSequence_mem_read_other {addr : Word}
    (h : addr ∉ [stackAddr s.sp, stackAddr (s.sp - 1#8), stackAddr (s.sp - 2#8)]) :
    (interruptSequence k ret s).mem.read addr.toNat = s.mem.read addr.toNat := by
  obtain ⟨h0, h1, h2⟩ : addr ≠ stackAddr s.sp ∧ addr ≠ stackAddr (s.sp - 1#8) ∧ addr ≠ stackAddr (s.sp - 2#8) := by
    simpa using h
  rw [interruptSequence_mem_read, if_neg h2, if_neg h1, if_neg h0]

theorem interruptSequence_mem_read_above {addr : Word} (h : 512 ≤ addr.toNat) :
    (interruptSequence k ret s).mem.read addr.toNat = s.mem.read addr.toNat :=
  interruptSequence_mem_read_other k ret s (by simp [ne_stackAddr h])

theorem interruptSequence_pc_eq : (interruptSequence k ret s).pc = busWord k.vector s := by
  obtain ⟨hlow, hhigh⟩ := k.vector_above_stack
  have hmem : ((push (k.pushedStatus s.p) (pushWord ret s)).setFlag .I true).mem = (interruptSequence k ret s).mem := by
    simp
  rw [interruptSequence_pc, read16_fst]
  apply busWord_congr
  · rw [hmem, interruptSequence_mem_read_above k ret s hlow]
  · rw [hmem, interruptSequence_mem_read_above k ret s hhigh]
  · simp
  · simp

theorem interruptSequence_cycles : (interruptSequence k ret s).cycles = s.cycles := by
  simp [interruptSequence, read16_cycles]

theorem interruptSequence_frame :
    Frame [.SP] [.I] [stackAddr s.sp, stackAddr (s.sp - 1#8), stackAddr (s.sp - 2#8)] s (interruptSequence k ret s) := by
  apply Frame.of_fields
  case hf =>
    intro f hf
    have hI : f ≠ .I := by simpa using hf
    rw [interruptSequence_p, getFlag_putFlag, if_neg hI]
  case hm => exact fun _ haddr => interruptSequence_mem_read_other k ret s haddr
  all_goals simp

theorem interruptSequence_accesses : (interruptSequence k ret s).accesses = s.accesses ++
    [.write (stackAddr s.sp) (highByte ret), .write (stackAddr (s.sp - 1#8)) (lowByte ret),
      .write (stackAddr (s.sp - 2#8)) (k.pushedStatus s.p), .read k.vector, .read (k.vector + 1#16)] := by
  simp [interruptSequence, read16_accesses, push, pushWord, sub_one_sub_one]

end sequence

/-- RTI gets back the P an NMI or IRQ pushed: bit 4, cleared in the copy, is 1 in P anyway (10_state.md R21). -/
theorem statusFromStack_statusWithoutBreak {p : Byte} (h : p &&& 0x30 = 0x30) :
    statusFromStack (statusWithoutBreak p) = p := by
  revert p; decide

end Sys2Proof.Machine

namespace Sys2Proof.Statements

open Machine

/-- Every kind that pushes enters alike; BRK, NMI and IRQ differ in the vector and the copy of P. -/
theorem interruptSequence_enters (k : InterruptKind) (ret : Word) (s : State) :
    Enters k.vector ret (k.pushedStatus s.p) s (interruptSequence k ret s) where
  pc := interruptSequence_pc_eq k ret s
  sp := interruptSequence_sp_eq k ret s
  high := by rw [interruptSequence_mem_read]; simp [(sub_one_ne s.sp).symm, (sub_two_ne s.sp).symm]
  low := by rw [interruptSequence_mem_read]; simp [(sub_two_ne_sub_one s.sp).symm]
  status := by rw [interruptSequence_mem_read, if_pos rfl]
  masked := by rw [State.flag, interruptSequence_p, getFlag_putFlag_same]
  frame := interruptSequence_frame k ret s
  accesses := interruptSequence_accesses k ret s
  cycles := interruptSequence_cycles k ret s

theorem nmi_enters (s : State) :
    Enters Config.vecNmi s.pc (statusWithoutBreak s.p) s.clearNmi (raiseInterrupt .nmi s) :=
  interruptSequence_enters .nmi s.pc s.clearNmi

theorem irq_enters (s : State) : Enters Config.vecIrq s.pc (statusWithoutBreak s.p) s (raiseInterrupt .irq s) :=
  interruptSequence_enters .irq s.pc s

/-- The PC BRK finds is one past its byte, so the address it pushes is `pc0 + 2`. -/
theorem brk_enters {pc0 : Word} {s : State} (hpc : s.pc = pc0 + 1#16) :
    Enters Config.vecIrq (pc0 + 2#16) (statusWithBreak s.p) s (raiseInterrupt .brk s) := by
  have hret : s.pc + 1#16 = pc0 + 2#16 := by rw [hpc, BitVec.add_assoc]; rfl
  rw [← hret]
  exact interruptSequence_enters .brk (s.pc + 1#16) s

/-- An entry, then anything that keeps SP and the three pushed bytes, then RTI: PC and SP are those before the entry, and P
is what the pushed copy gives back (R209). -/
theorem Enters.rti {vector ret : Word} {copy : Byte} {s t t' u : State} (h : Enters vector ret copy s t)
    (hsp : t'.sp = t.sp)
    (hkept : ∀ addr ∈ [stackAddr s.sp, stackAddr (s.sp - 1#8), stackAddr (s.sp - 2#8)],
      t'.isIo addr = false ∧ t'.mem.read addr.toNat = t.mem.read addr.toNat)
    (hrti : exec .rti t' = .next u) : u.pc = ret ∧ u.p = statusFromStack copy ∧ u.sp = s.sp := by
  cases hrti
  have hsp3 : t'.sp + 3#8 = s.sp := by rw [hsp, h.sp, BitVec.sub_add_cancel]
  have hsp2 : t'.sp + 2#8 = s.sp - 1#8 := by rw [← hsp3]; bv_omega
  have hsp1 : t'.sp + 1#8 = s.sp - 2#8 := by rw [← hsp3]; bv_omega
  obtain ⟨hioHigh, hhigh⟩ := hkept (stackAddr s.sp) (by simp)
  obtain ⟨hioLow, hlow⟩ := hkept (stackAddr (s.sp - 1#8)) (by simp)
  obtain ⟨hioStatus, hstatus⟩ := hkept (stackAddr (s.sp - 2#8)) (by simp)
  obtain ⟨hp, hpc⟩ := returnFromInterrupt_plain (hsp1 ▸ hioStatus) (hsp2 ▸ hioLow) (hsp3 ▸ hioHigh)
  refine ⟨?_, ?_, ?_⟩
  · rw [hpc, hsp2, hsp3, hhigh, hlow, h.high, h.low, wordOf_high_low]
  · rw [hp, hsp1, hstatus, h.status]
  · rw [returnFromInterrupt_sp_eq, hsp3]

end Sys2Proof.Statements

namespace Sys2Proof

open Machine Statements

/-- Settles O8: an entry answers a next state, and so does every instruction. -/
theorem everyStepAnswersNext : Obligations.EveryStepAnswersNext := safeStep

/-- Settles O9: every meaning is a sequence of updates with a next state at its end. -/
theorem everyInstructionCompletes : Obligations.EveryInstructionCompletes := fun i s =>
  have ⟨t, ht, _⟩ := exec_listedUpdates i s
  ⟨t, ht⟩

/-- Settles O10: `recognise` asks for the requests in this order, and an entry is `entryStep`. -/
theorem stepRecognisesByPriority : Obligations.StepRecognisesByPriority := fun _ =>
  ⟨step_of_reset, step_of_nmi, step_of_irq, fun hreset hnmi hmasked => step_of_noEntry ⟨hreset, hnmi, hmasked⟩⟩

/-- Settles O11: an instruction keeps the requests, so only the I it leaves decides what the next step recognises. -/
theorem interruptMaskActsAtTheNextStep : Obligations.InterruptMaskActsAtTheNextStep := by
  intro i s t hexec hreset hnmi hirq
  obtain ⟨hnmi', hirq', hreset', -⟩ := (listedUpdates_of_exec hexec).keepsInputs
  rw [hreset] at hreset'
  rw [hnmi] at hnmi'
  rw [hirq] at hirq'
  refine ⟨fun hI => ?_, fun hI => step_of_noEntry ⟨hreset', hnmi', .inr hI⟩⟩
  have h := irq_enters t.beginStep
  exact ⟨_, step_of_irq hreset' hnmi' hirq' hI, h.pc, rfl, h.masked, h.high, h.low⟩

/-- Settles O12: the three entries are the one sequence of R205. -/
theorem interruptSequenceEffect : Obligations.InterruptSequenceEffect := fun s =>
  ⟨interruptSequence_nmiPending s.clearNmi .nmi s.pc, nmi_enters s, irq_enters s, fun _ hpc => brk_enters hpc⟩

/-- Settles O56: BRK is an entry whatever I is. -/
theorem brkTakesTheInterruptSequence : Obligations.BrkTakesTheInterruptSequence :=
  ⟨rfl, rfl, rfl, fun _ _ hpc => ⟨_, rfl, brk_enters hpc⟩⟩

/-- Settles O58: NMI first, or else IRQ, with the copy of P that gives P back under the invariant. -/
theorem rtiResumesTheInterruptedProgram : Obligations.RtiResumesTheInterruptedProgram := by
  intro s t t' u hinv hreset hrequest hstep hsp hkept hrti
  rw [← statusFromStack_statusWithoutBreak hinv.fixed_bits]
  cases hnmi : s.nmiPending with
  | true =>
    rw [step_of_nmi hreset hnmi] at hstep
    cases hstep
    exact (nmi_enters s.beginStep).rti hsp hkept hrti
  | false =>
    obtain ⟨hirq, hI⟩ : s.irqLine = true ∧ s.flag .I = false := by simpa [hnmi] using hrequest
    rw [step_of_irq hreset hnmi hirq hI] at hstep
    cases hstep
    exact (irq_enters s.beginStep).rti hsp hkept hrti

end Sys2Proof

/-! SUPPORT. The cycle count of a step (70_reset_and_hazards.md R240 to R244): what an instruction adds to the base count of
its opcode byte, and that every base count leaves room for it. -/

namespace Sys2Proof

open Machine

/-- The most cycles an instruction adds to its base count: the page-cross penalty of a read (R242), or the two cycles of a
branch taken into another page (R243). -/
def Instr.mostExtraCycles (i : Instr) : Nat := if i.readsOperand then 1 else if i.branchTest.isSome then 2 else 0

/-! ### The base counts (R241) -/

theorem forall_of_pickOpcode {m : Mode} {row : List (Mode × Byte)} {op : Byte} {P : Byte → Prop}
    (h : pickOpcode m row = some op) (hrow : ∀ entry ∈ row, P entry.2) : P op := by
  induction row with
  | nil => cases h
  | cons entry row ih =>
    obtain ⟨hentry, hrest⟩ := List.forall_mem_cons.1 hrow
    rw [pickOpcode] at h
    split at h
    · cases h
      exact hentry
    · exact ih h hrest

/-- A read has a base count of at most 6 and a branch one of 2 (30_encoding.md R56). -/
theorem baseCycles_add_mostExtraCycles_le {i : Instr} {op : Byte} (h : i.opcode = some op) :
    baseCycles op + i.mostExtraCycles ≤ 7 := by
  cases i with
  | lda src | ldx src | ldy src | adc src | sbc src | and src | ora src | eor src | bit src | cmp src | cpx src | cpy src =>
    exact forall_of_pickOpcode (P := fun op => baseCycles op + 1 ≤ 7) h (by decide)
  | bcc disp | bcs disp | beq disp | bne disp | bmi disp | bpl disp | bvc disp | bvs disp =>
    have hle : baseCycles op + 2 ≤ 7 := by
      cases h
      decide
    exact hle
  | _ => exact (baseCycles_bounds op).2

end Sys2Proof

namespace Sys2Proof.Machine

/-! ### What an instruction adds (R242, R243) -/

theorem penalty_le_one (cross : Bool) : penalty cross ≤ 1 := by
  cases cross <;> decide

theorem operandPenalty_le_one (src : Source) (s : State) : operandPenalty src s ≤ 1 := by
  cases src with
  | imm v => exact Nat.zero_le 1
  | mem m => exact penalty_le_one _

theorem branchIf_cycles_bounds (f : Flag) (want : Bool) (disp : Byte) (s : State) :
    ∃ n ≤ 2, (branchIf f want disp s).cycles = s.cycles + n := by
  refine ⟨_, ?_, branchIf_cycles f want disp s⟩
  split
  · split <;> decide
  · decide

theorem updatePlace_cycles (pl : Place) (f : Byte → Byte) (s : State) : (updatePlace pl f s).2.cycles = s.cycles := by
  cases pl with
  | acc => rfl
  | mem m => exact updateMem_cycles s m f

theorem jumpTarget_cycles (target : Target) (s : State) : (jumpTarget target s).2.cycles = s.cycles := by
  cases target <;> rfl

/-- An instruction adds to the cycle count at most what its kind allows. -/
theorem exec_cycles (i : Instr) (s : State) :
    ∃ t, exec i s = .next t ∧ ∃ n ≤ i.mostExtraCycles, t.cycles = s.cycles + n := by
  cases i with
  | lda src | ldx src | ldy src | adc src | sbc src | and src | ora src | eor src | cmp src | cpx src | cpy src =>
    exact ⟨_, rfl, _, operandPenalty_le_one src s, readSource_cycles s src⟩
  | bit m => exact ⟨_, rfl, _, operandPenalty_le_one (.mem m) s, readSource_cycles s (.mem m)⟩
  | bcc disp | bcs disp | beq disp | bne disp | bmi disp | bpl disp | bvc disp | bvs disp =>
    exact ⟨_, rfl, branchIf_cycles_bounds _ _ disp s⟩
  | sta dst | stx dst | sty dst => exact ⟨_, rfl, 0, le_rfl, storeTo_cycles s dst _⟩
  | asl dst | lsr dst | rol dst | ror dst => exact ⟨_, rfl, 0, le_rfl, updatePlace_cycles dst _ s⟩
  | inc dst => exact ⟨_, rfl, 0, le_rfl, updateMem_cycles s dst (· + 1#8)⟩
  | dec dst => exact ⟨_, rfl, 0, le_rfl, updateMem_cycles s dst (· - 1#8)⟩
  | jmp target => exact ⟨_, rfl, 0, le_rfl, jumpTarget_cycles target s⟩
  | jsr target => exact ⟨_, rfl, 0, le_rfl, pushWord_cycles (s.pc - 1#16) s⟩
  | rts => exact ⟨_, rfl, 0, le_rfl, pullWord_cycles s⟩
  | brk => exact ⟨_, rfl, 0, le_rfl, interruptSequence_cycles .brk _ s⟩
  | rti => exact ⟨_, rfl, 0, le_rfl, returnFromInterrupt_cycles s⟩
  | _ => exact ⟨_, rfl, 0, le_rfl, rfl⟩

/-- An entry costs 7 cycles (R244). -/
theorem entryStep_cycles (k : InterruptKind) (s : State) : (entryStep k s).cycles = 7 := by
  have hraise : (raiseInterrupt k s.beginStep).cycles = 0 := by
    cases k with
    | reset => rfl
    | nmi | irq | brk => exact interruptSequence_cycles _ _ _
  rw [entryStep, State.addCycles_cycles, hraise]
  rfl

end Sys2Proof.Machine

namespace Sys2Proof

open Machine

/-- Settles O19: an entry costs 7 cycles, and an instruction its base count with what its kind adds. -/
theorem everyStepCostsTwoToSeven : Obligations.EveryStepCostsTwoToSeven := by
  intro s t hstep
  cases hk : recognise s with
  | some k =>
    rw [step_of_recognise hk] at hstep
    cases hstep
    rw [entryStep_cycles]
    decide
  | none =>
    rw [step_of_no_entry hk] at hstep
    obtain ⟨b, c, hinstr⟩ := fetch_instr s.beginStep
    obtain ⟨-, -, hopcode, -⟩ := instrOf_good (s.busAnswer s.pc) b c
    obtain ⟨t', ht', n, hn, hcycles⟩ := exec_cycles (fetch s.beginStep).1 (fetch s.beginStep).2
    obtain rfl : t = t' := by simpa [hstep] using ht'
    rw [fetch_cycles, State.beginStep_cycles, beginStep_busAnswer, State.beginStep_pc] at hcycles
    have hlow := (baseCycles_bounds (s.busAnswer s.pc)).1
    have hhigh := baseCycles_add_mostExtraCycles_le (hinstr ▸ hopcode)
    omega

end Sys2Proof
